-- ==== Sys2Proof/Word.lean ====
section
/-! DEFINITION. The two machine words of the MedNES core: the 8-bit byte and the 16-bit word
(spec/00_scope.md R5, R7). Their bit-field helpers stand in Machine/Bits.lean. -/

namespace Sys2Proof

/-- The 8-bit byte: data registers, status, one memory cell (R5, R7, R10). -/
abbrev Byte := BitVec 8

/-- The 16-bit word: the program counter and every CPU address (R5, R7, R11). -/
abbrev Word := BitVec 16

end Sys2Proof
end

