-- ==== Sys2Proof/Machine/Bits.lean ====
section
/-! DEFINITION. Bit-field helpers of the spec's notation (spec/00_scope.md R7): low and high byte,
concatenation, sign extension of a branch offset, single bits as flags, bit reversal. -/

namespace Sys2Proof.Machine

/-- `lo(w) = w & 0xFF` (R7). -/
def loByte (w : Word) : Byte := w.setWidth 8

/-- `hi(w) = (w >> 8) & 0xFF` (R7). -/
def hiByte (w : Word) : Byte := (w >>> 8).setWidth 8

/-- The word `lo | (hi << 8)`: the byte at the lower address is the low byte (R42). -/
def wordOf (lo hi : Byte) : Word := lo.setWidth 16 ||| (hi.setWidth 16 <<< 8)

/-- `zext_16` (R7). -/
def zext16 (b : Byte) : Word := b.setWidth 16

/-- `sext_16`: the only sign extension of the machine, of a branch offset (R7, R73, R135). -/
def sext16 (b : Byte) : Word := b.signExtend 16

/-- A one-bit flag as a number of `n` bits. -/
def bitOf (n : Nat) (b : Bool) : BitVec n := if b then 1 else 0

/-- Bit `i` of a byte replaced by `b`; the other bits stay. -/
def setBit (p : Byte) (i : Nat) (b : Bool) : Byte :=
  if b then p ||| (1#8 <<< i) else p &&& ~~~(1#8 <<< i)

/-- `rev8`: the bit order of a byte reversed (R281, horizontal flip). -/
def rev8 (b : Byte) : Byte := b.reverse

end Sys2Proof.Machine
end

