-- ==== Sys2Proof/Syntax.lean ====
section
/-! DEFINITION. The instruction set as syntax: one constructor per row of spec/opcode_table.json, the 256
opcode bytes of spec/30_encoding.md R76 (151 official, 76 undocumented, 29 unknown). A constructor carries
the operand bytes its format has (R60): none, one byte, or the word `b1 | (b2 << 8)`. Undocumented and unknown
encodings that share a mnemonic carry their opcode byte in their name. The rows with an operand stand first, in
opcode order, then the one-byte rows. -/

namespace Sys2Proof

inductive Instr where
  /-- `$01` ORA (indirect,X) (R123, R71). -/
  | oraIzx (b : Byte)
  /-- `$03` *SLO (indirect,X) (R204, R71). -/
  | sloIzx (b : Byte)
  /-- `$04` *NOP zero-page (R210, R65). -/
  | nopZp04 (b : Byte)
  /-- `$05` ORA zero-page (R123, R65). -/
  | oraZp (b : Byte)
  /-- `$06` ASL zero-page (R150, R65). -/
  | aslZp (b : Byte)
  /-- `$07` *SLO zero-page (R204, R65). -/
  | sloZp (b : Byte)
  /-- `$09` ORA immediate (R123, R64). -/
  | oraImm (b : Byte)
  /-- `$0C` *NOP absolute (R210, R68). -/
  | nopAbs0C (w : Word)
  /-- `$0D` ORA absolute (R123, R68). -/
  | oraAbs (w : Word)
  /-- `$0E` ASL absolute (R150, R68). -/
  | aslAbs (w : Word)
  /-- `$0F` *SLO absolute (R204, R68). -/
  | sloAbs (w : Word)
  /-- `$10` BPL relative (R170, R73). -/
  | bpl (b : Byte)
  /-- `$11` ORA (indirect),Y (R123, R72). -/
  | oraIzy (b : Byte)
  /-- `$13` *SLO (indirect),Y (R204, R72). -/
  | sloIzy (b : Byte)
  /-- `$14` *NOP zero-page,X (R210, R66). -/
  | nopZpx14 (b : Byte)
  /-- `$15` ORA zero-page,X (R123, R66). -/
  | oraZpx (b : Byte)
  /-- `$16` ASL zero-page,X (R150, R66). -/
  | aslZpx (b : Byte)
  /-- `$17` *SLO zero-page,X (R204, R66). -/
  | sloZpx (b : Byte)
  /-- `$19` ORA absolute,Y (R123, R70). -/
  | oraAby (w : Word)
  /-- `$1B` *SLO absolute,Y (R204, R70). -/
  | sloAby (w : Word)
  /-- `$1C` *NOP absolute,X (R210, R69). -/
  | nopAbx1C (w : Word)
  /-- `$1D` ORA absolute,X (R123, R69). -/
  | oraAbx (w : Word)
  /-- `$1E` ASL absolute,X (R150, R69). -/
  | aslAbx (w : Word)
  /-- `$1F` *SLO absolute,X (R204, R69). -/
  | sloAbx (w : Word)
  /-- `$20` JSR absolute (R162, R68). -/
  | jsr (w : Word)
  /-- `$21` AND (indirect,X) (R122, R71). -/
  | andIzx (b : Byte)
  /-- `$23` *RLA (indirect,X) (R205, R71). -/
  | rlaIzx (b : Byte)
  /-- `$24` BIT zero-page (R128, R65). -/
  | bitZp (b : Byte)
  /-- `$25` AND zero-page (R122, R65). -/
  | andZp (b : Byte)
  /-- `$26` ROL zero-page (R152, R65). -/
  | rolZp (b : Byte)
  /-- `$27` *RLA zero-page (R205, R65). -/
  | rlaZp (b : Byte)
  /-- `$29` AND immediate (R122, R64). -/
  | andImm (b : Byte)
  /-- `$2C` BIT absolute (R128, R68). -/
  | bitAbs (w : Word)
  /-- `$2D` AND absolute (R122, R68). -/
  | andAbs (w : Word)
  /-- `$2E` ROL absolute (R152, R68). -/
  | rolAbs (w : Word)
  /-- `$2F` *RLA absolute (R205, R68). -/
  | rlaAbs (w : Word)
  /-- `$30` BMI relative (R169, R73). -/
  | bmi (b : Byte)
  /-- `$31` AND (indirect),Y (R122, R72). -/
  | andIzy (b : Byte)
  /-- `$33` *RLA (indirect),Y (R205, R72). -/
  | rlaIzy (b : Byte)
  /-- `$34` *NOP zero-page,X (R210, R66). -/
  | nopZpx34 (b : Byte)
  /-- `$35` AND zero-page,X (R122, R66). -/
  | andZpx (b : Byte)
  /-- `$36` ROL zero-page,X (R152, R66). -/
  | rolZpx (b : Byte)
  /-- `$37` *RLA zero-page,X (R205, R66). -/
  | rlaZpx (b : Byte)
  /-- `$39` AND absolute,Y (R122, R70). -/
  | andAby (w : Word)
  /-- `$3B` *RLA absolute,Y (R205, R70). -/
  | rlaAby (w : Word)
  /-- `$3C` *NOP absolute,X (R210, R69). -/
  | nopAbx3C (w : Word)
  /-- `$3D` AND absolute,X (R122, R69). -/
  | andAbx (w : Word)
  /-- `$3E` ROL absolute,X (R152, R69). -/
  | rolAbx (w : Word)
  /-- `$3F` *RLA absolute,X (R205, R69). -/
  | rlaAbx (w : Word)
  /-- `$41` EOR (indirect,X) (R124, R71). -/
  | eorIzx (b : Byte)
  /-- `$43` *SRE (indirect,X) (R206, R71). -/
  | sreIzx (b : Byte)
  /-- `$44` *NOP zero-page (R210, R65). -/
  | nopZp44 (b : Byte)
  /-- `$45` EOR zero-page (R124, R65). -/
  | eorZp (b : Byte)
  /-- `$46` LSR zero-page (R151, R65). -/
  | lsrZp (b : Byte)
  /-- `$47` *SRE zero-page (R206, R65). -/
  | sreZp (b : Byte)
  /-- `$49` EOR immediate (R124, R64). -/
  | eorImm (b : Byte)
  /-- `$4C` JMP absolute (R160, R68). -/
  | jmpAbs (w : Word)
  /-- `$4D` EOR absolute (R124, R68). -/
  | eorAbs (w : Word)
  /-- `$4E` LSR absolute (R151, R68). -/
  | lsrAbs (w : Word)
  /-- `$4F` *SRE absolute (R206, R68). -/
  | sreAbs (w : Word)
  /-- `$50` BVC relative (R171, R73). -/
  | bvc (b : Byte)
  /-- `$51` EOR (indirect),Y (R124, R72). -/
  | eorIzy (b : Byte)
  /-- `$53` *SRE (indirect),Y (R206, R72). -/
  | sreIzy (b : Byte)
  /-- `$54` *NOP zero-page,X (R210, R66). -/
  | nopZpx54 (b : Byte)
  /-- `$55` EOR zero-page,X (R124, R66). -/
  | eorZpx (b : Byte)
  /-- `$56` LSR zero-page,X (R151, R66). -/
  | lsrZpx (b : Byte)
  /-- `$57` *SRE zero-page,X (R206, R66). -/
  | sreZpx (b : Byte)
  /-- `$59` EOR absolute,Y (R124, R70). -/
  | eorAby (w : Word)
  /-- `$5B` *SRE absolute,Y (R206, R70). -/
  | sreAby (w : Word)
  /-- `$5C` *NOP absolute,X (R210, R69). -/
  | nopAbx5C (w : Word)
  /-- `$5D` EOR absolute,X (R124, R69). -/
  | eorAbx (w : Word)
  /-- `$5E` LSR absolute,X (R151, R69). -/
  | lsrAbx (w : Word)
  /-- `$5F` *SRE absolute,X (R206, R69). -/
  | sreAbx (w : Word)
  /-- `$61` ADC (indirect,X) (R120, R71). -/
  | adcIzx (b : Byte)
  /-- `$63` *RRA (indirect,X) (R207, R71). -/
  | rraIzx (b : Byte)
  /-- `$64` *NOP zero-page (R210, R65). -/
  | nopZp64 (b : Byte)
  /-- `$65` ADC zero-page (R120, R65). -/
  | adcZp (b : Byte)
  /-- `$66` ROR zero-page (R153, R65). -/
  | rorZp (b : Byte)
  /-- `$67` *RRA zero-page (R207, R65). -/
  | rraZp (b : Byte)
  /-- `$69` ADC immediate (R120, R64). -/
  | adcImm (b : Byte)
  /-- `$6C` JMP indirect (R161). -/
  | jmpInd (w : Word)
  /-- `$6D` ADC absolute (R120, R68). -/
  | adcAbs (w : Word)
  /-- `$6E` ROR absolute (R153, R68). -/
  | rorAbs (w : Word)
  /-- `$6F` *RRA absolute (R207, R68). -/
  | rraAbs (w : Word)
  /-- `$70` BVS relative (R172, R73). -/
  | bvs (b : Byte)
  /-- `$71` ADC (indirect),Y (R120, R72). -/
  | adcIzy (b : Byte)
  /-- `$73` *RRA (indirect),Y (R207, R72). -/
  | rraIzy (b : Byte)
  /-- `$74` *NOP zero-page,X (R210, R66). -/
  | nopZpx74 (b : Byte)
  /-- `$75` ADC zero-page,X (R120, R66). -/
  | adcZpx (b : Byte)
  /-- `$76` ROR zero-page,X (R153, R66). -/
  | rorZpx (b : Byte)
  /-- `$77` *RRA zero-page,X (R207, R66). -/
  | rraZpx (b : Byte)
  /-- `$79` ADC absolute,Y (R120, R70). -/
  | adcAby (w : Word)
  /-- `$7B` *RRA absolute,Y (R207, R70). -/
  | rraAby (w : Word)
  /-- `$7C` *NOP absolute,X (R210, R69). -/
  | nopAbx7C (w : Word)
  /-- `$7D` ADC absolute,X (R120, R69). -/
  | adcAbx (w : Word)
  /-- `$7E` ROR absolute,X (R153, R69). -/
  | rorAbx (w : Word)
  /-- `$7F` *RRA absolute,X (R207, R69). -/
  | rraAbx (w : Word)
  /-- `$80` *NOP immediate (R209, R64). -/
  | nopImm80 (b : Byte)
  /-- `$81` STA (indirect,X) (R103, R71). -/
  | staIzx (b : Byte)
  /-- `$83` *SAX (indirect,X) (R201, R71). -/
  | saxIzx (b : Byte)
  /-- `$84` STY zero-page (R105, R65). -/
  | styZp (b : Byte)
  /-- `$85` STA zero-page (R103, R65). -/
  | staZp (b : Byte)
  /-- `$86` STX zero-page (R104, R65). -/
  | stxZp (b : Byte)
  /-- `$87` *SAX zero-page (R201, R65). -/
  | saxZp (b : Byte)
  /-- `$8C` STY absolute (R105, R68). -/
  | styAbs (w : Word)
  /-- `$8D` STA absolute (R103, R68). -/
  | staAbs (w : Word)
  /-- `$8E` STX absolute (R104, R68). -/
  | stxAbs (w : Word)
  /-- `$8F` *SAX absolute (R201, R68). -/
  | saxAbs (w : Word)
  /-- `$90` BCC relative (R165, R73). -/
  | bcc (b : Byte)
  /-- `$91` STA (indirect),Y (R103, R72). -/
  | staIzy (b : Byte)
  /-- `$94` STY zero-page,X (R105, R66). -/
  | styZpx (b : Byte)
  /-- `$95` STA zero-page,X (R103, R66). -/
  | staZpx (b : Byte)
  /-- `$96` STX zero-page,Y (R104, R67). -/
  | stxZpy (b : Byte)
  /-- `$97` *SAX zero-page,Y (R201, R67). -/
  | saxZpy (b : Byte)
  /-- `$99` STA absolute,Y (R103, R70). -/
  | staAby (w : Word)
  /-- `$9D` STA absolute,X (R103, R69). -/
  | staAbx (w : Word)
  /-- `$A0` LDY immediate (R102, R64). -/
  | ldyImm (b : Byte)
  /-- `$A1` LDA (indirect,X) (R100, R71). -/
  | ldaIzx (b : Byte)
  /-- `$A2` LDX immediate (R101, R64). -/
  | ldxImm (b : Byte)
  /-- `$A3` *LAX (indirect,X) (R200, R71). -/
  | laxIzx (b : Byte)
  /-- `$A4` LDY zero-page (R102, R65). -/
  | ldyZp (b : Byte)
  /-- `$A5` LDA zero-page (R100, R65). -/
  | ldaZp (b : Byte)
  /-- `$A6` LDX zero-page (R101, R65). -/
  | ldxZp (b : Byte)
  /-- `$A7` *LAX zero-page (R200, R65). -/
  | laxZp (b : Byte)
  /-- `$A9` LDA immediate (R100, R64). -/
  | ldaImm (b : Byte)
  /-- `$AC` LDY absolute (R102, R68). -/
  | ldyAbs (w : Word)
  /-- `$AD` LDA absolute (R100, R68). -/
  | ldaAbs (w : Word)
  /-- `$AE` LDX absolute (R101, R68). -/
  | ldxAbs (w : Word)
  /-- `$AF` *LAX absolute (R200, R68). -/
  | laxAbs (w : Word)
  /-- `$B0` BCS relative (R166, R73). -/
  | bcs (b : Byte)
  /-- `$B1` LDA (indirect),Y (R100, R72). -/
  | ldaIzy (b : Byte)
  /-- `$B3` *LAX (indirect),Y (R200, R72). -/
  | laxIzy (b : Byte)
  /-- `$B4` LDY zero-page,X (R102, R66). -/
  | ldyZpx (b : Byte)
  /-- `$B5` LDA zero-page,X (R100, R66). -/
  | ldaZpx (b : Byte)
  /-- `$B6` LDX zero-page,Y (R101, R67). -/
  | ldxZpy (b : Byte)
  /-- `$B7` *LAX zero-page,Y (R200, R67). -/
  | laxZpy (b : Byte)
  /-- `$B9` LDA absolute,Y (R100, R70). -/
  | ldaAby (w : Word)
  /-- `$BC` LDY absolute,X (R102, R69). -/
  | ldyAbx (w : Word)
  /-- `$BD` LDA absolute,X (R100, R69). -/
  | ldaAbx (w : Word)
  /-- `$BE` LDX absolute,Y (R101, R70). -/
  | ldxAby (w : Word)
  /-- `$BF` *LAX absolute,Y (R200, R70). -/
  | laxAby (w : Word)
  /-- `$C0` CPY immediate (R127, R64). -/
  | cpyImm (b : Byte)
  /-- `$C1` CMP (indirect,X) (R125, R71). -/
  | cmpIzx (b : Byte)
  /-- `$C3` *DCP (indirect,X) (R202, R71). -/
  | dcpIzx (b : Byte)
  /-- `$C4` CPY zero-page (R127, R65). -/
  | cpyZp (b : Byte)
  /-- `$C5` CMP zero-page (R125, R65). -/
  | cmpZp (b : Byte)
  /-- `$C6` DEC zero-page (R130, R65). -/
  | decZp (b : Byte)
  /-- `$C7` *DCP zero-page (R202, R65). -/
  | dcpZp (b : Byte)
  /-- `$C9` CMP immediate (R125, R64). -/
  | cmpImm (b : Byte)
  /-- `$CC` CPY absolute (R127, R68). -/
  | cpyAbs (w : Word)
  /-- `$CD` CMP absolute (R125, R68). -/
  | cmpAbs (w : Word)
  /-- `$CE` DEC absolute (R130, R68). -/
  | decAbs (w : Word)
  /-- `$CF` *DCP absolute (R202, R68). -/
  | dcpAbs (w : Word)
  /-- `$D0` BNE relative (R168, R73). -/
  | bne (b : Byte)
  /-- `$D1` CMP (indirect),Y (R125, R72). -/
  | cmpIzy (b : Byte)
  /-- `$D3` *DCP (indirect),Y (R202, R72). -/
  | dcpIzy (b : Byte)
  /-- `$D4` *NOP zero-page,X (R210, R66). -/
  | nopZpxD4 (b : Byte)
  /-- `$D5` CMP zero-page,X (R125, R66). -/
  | cmpZpx (b : Byte)
  /-- `$D6` DEC zero-page,X (R130, R66). -/
  | decZpx (b : Byte)
  /-- `$D7` *DCP zero-page,X (R202, R66). -/
  | dcpZpx (b : Byte)
  /-- `$D9` CMP absolute,Y (R125, R70). -/
  | cmpAby (w : Word)
  /-- `$DB` *DCP absolute,Y (R202, R70). -/
  | dcpAby (w : Word)
  /-- `$DC` *NOP absolute,X (R210, R69). -/
  | nopAbxDC (w : Word)
  /-- `$DD` CMP absolute,X (R125, R69). -/
  | cmpAbx (w : Word)
  /-- `$DE` DEC absolute,X (R130, R69). -/
  | decAbx (w : Word)
  /-- `$DF` *DCP absolute,X (R202, R69). -/
  | dcpAbx (w : Word)
  /-- `$E0` CPX immediate (R126, R64). -/
  | cpxImm (b : Byte)
  /-- `$E1` SBC (indirect,X) (R121, R71). -/
  | sbcIzx (b : Byte)
  /-- `$E3` *ISB (indirect,X) (R203, R71). -/
  | isbIzx (b : Byte)
  /-- `$E4` CPX zero-page (R126, R65). -/
  | cpxZp (b : Byte)
  /-- `$E5` SBC zero-page (R121, R65). -/
  | sbcZp (b : Byte)
  /-- `$E6` INC zero-page (R129, R65). -/
  | incZp (b : Byte)
  /-- `$E7` *ISB zero-page (R203, R65). -/
  | isbZp (b : Byte)
  /-- `$E9` SBC immediate (R121, R64). -/
  | sbcImm (b : Byte)
  /-- `$EB` *SBC immediate (R211, R64). -/
  | sbcImmEB (b : Byte)
  /-- `$EC` CPX absolute (R126, R68). -/
  | cpxAbs (w : Word)
  /-- `$ED` SBC absolute (R121, R68). -/
  | sbcAbs (w : Word)
  /-- `$EE` INC absolute (R129, R68). -/
  | incAbs (w : Word)
  /-- `$EF` *ISB absolute (R203, R68). -/
  | isbAbs (w : Word)
  /-- `$F0` BEQ relative (R167, R73). -/
  | beq (b : Byte)
  /-- `$F1` SBC (indirect),Y (R121, R72). -/
  | sbcIzy (b : Byte)
  /-- `$F3` *ISB (indirect),Y (R203, R72). -/
  | isbIzy (b : Byte)
  /-- `$F4` *NOP zero-page,X (R210, R66). -/
  | nopZpxF4 (b : Byte)
  /-- `$F5` SBC zero-page,X (R121, R66). -/
  | sbcZpx (b : Byte)
  /-- `$F6` INC zero-page,X (R129, R66). -/
  | incZpx (b : Byte)
  /-- `$F7` *ISB zero-page,X (R203, R66). -/
  | isbZpx (b : Byte)
  /-- `$F9` SBC absolute,Y (R121, R70). -/
  | sbcAby (w : Word)
  /-- `$FB` *ISB absolute,Y (R203, R70). -/
  | isbAby (w : Word)
  /-- `$FC` *NOP absolute,X (R210, R69). -/
  | nopAbxFC (w : Word)
  /-- `$FD` SBC absolute,X (R121, R69). -/
  | sbcAbx (w : Word)
  /-- `$FE` INC absolute,X (R129, R69). -/
  | incAbx (w : Word)
  /-- `$FF` *ISB absolute,X (R203, R69). -/
  | isbAbx (w : Word)
  /-- `$00` BRK (R192, R62). -/
  | brk
  /-- `$02` *UNK (R212). -/
  | unk02
  /-- `$08` PHP (R181, R62). -/
  | php
  /-- `$0A` ASL accumulator (R150, R63). -/
  | aslAcc
  /-- `$0B` *UNK (R212). -/
  | unk0B
  /-- `$12` *UNK (R212). -/
  | unk12
  /-- `$18` CLC (R184, R62). -/
  | clc
  /-- `$1A` *NOP (R208, R62). -/
  | nop1A
  /-- `$22` *UNK (R212). -/
  | unk22
  /-- `$28` PLP (R183, R62). -/
  | plp
  /-- `$2A` ROL accumulator (R152, R63). -/
  | rolAcc
  /-- `$2B` *UNK (R212). -/
  | unk2B
  /-- `$32` *UNK (R212). -/
  | unk32
  /-- `$38` SEC (R185, R62). -/
  | sec
  /-- `$3A` *NOP (R208, R62). -/
  | nop3A
  /-- `$40` RTI (R193, R62). -/
  | rti
  /-- `$42` *UNK (R212). -/
  | unk42
  /-- `$48` PHA (R180, R62). -/
  | pha
  /-- `$4A` LSR accumulator (R151, R63). -/
  | lsrAcc
  /-- `$4B` *UNK (R212). -/
  | unk4B
  /-- `$52` *UNK (R212). -/
  | unk52
  /-- `$58` CLI (R186, R62). -/
  | cli
  /-- `$5A` *NOP (R208, R62). -/
  | nop5A
  /-- `$60` RTS (R163, R62). -/
  | rts
  /-- `$62` *UNK (R212). -/
  | unk62
  /-- `$68` PLA (R182, R62). -/
  | pla
  /-- `$6A` ROR accumulator (R153, R63). -/
  | rorAcc
  /-- `$6B` *UNK (R212). -/
  | unk6B
  /-- `$72` *UNK (R212). -/
  | unk72
  /-- `$78` SEI (R187, R62). -/
  | sei
  /-- `$7A` *NOP (R208, R62). -/
  | nop7A
  /-- `$82` *UNK (R212). -/
  | unk82
  /-- `$88` DEY (R134, R62). -/
  | dey
  /-- `$89` *UNK (R212). -/
  | unk89
  /-- `$8A` TXA (R108, R62). -/
  | txa
  /-- `$8B` *UNK (R212). -/
  | unk8B
  /-- `$92` *UNK (R212). -/
  | unk92
  /-- `$93` *UNK (R212). -/
  | unk93
  /-- `$98` TYA (R109, R62). -/
  | tya
  /-- `$9A` TXS (R111, R62). -/
  | txs
  /-- `$9B` *UNK (R212). -/
  | unk9B
  /-- `$9C` *UNK (R212). -/
  | unk9C
  /-- `$9E` *UNK (R212). -/
  | unk9E
  /-- `$9F` *UNK (R212). -/
  | unk9F
  /-- `$A8` TAY (R107, R62). -/
  | tay
  /-- `$AA` TAX (R106, R62). -/
  | tax
  /-- `$AB` *UNK (R212). -/
  | unkAB
  /-- `$B2` *UNK (R212). -/
  | unkB2
  /-- `$B8` CLV (R188, R62). -/
  | clv
  /-- `$BA` TSX (R110, R62). -/
  | tsx
  /-- `$BB` *UNK (R212). -/
  | unkBB
  /-- `$C2` *UNK (R212). -/
  | unkC2
  /-- `$C8` INY (R132, R62). -/
  | iny
  /-- `$CA` DEX (R133, R62). -/
  | dex
  /-- `$CB` *UNK (R212). -/
  | unkCB
  /-- `$D2` *UNK (R212). -/
  | unkD2
  /-- `$D8` CLD (R189, R62). -/
  | cld
  /-- `$DA` *NOP (R208, R62). -/
  | nopDA
  /-- `$E2` *UNK (R212). -/
  | unkE2
  /-- `$E8` INX (R131, R62). -/
  | inx
  /-- `$EA` NOP (R191, R62). -/
  | nop
  /-- `$F2` *UNK (R212). -/
  | unkF2
  /-- `$F8` SED (R190, R62). -/
  | sed
  /-- `$FA` *NOP (R208, R62). -/
  | nopFA
  deriving DecidableEq, Repr

/-- The mnemonics of R76; a leading `u` marks an undocumented or unknown one (the spec's leading `*`). -/
inductive Mnemonic where
  | adc | and | asl | bcc | bcs | beq | bit | bmi | bne | bpl
  | brk | bvc | bvs | clc | cld | cli | clv | cmp | cpx | cpy
  | dec | dex | dey | eor | inc | inx | iny | jmp | jsr | lda
  | ldx | ldy | lsr | nop | ora | pha | php | pla | plp | rol
  | ror | rti | rts | sbc | sec | sed | sei | sta | stx | sty
  | tax | tay | tsx | txa | txs | tya | uDcp | uIsb | uLax | uNop
  | uRla | uRra | uSax | uSbc | uSlo | uSre | uUnk
  deriving DecidableEq, Repr

/-- The mnemonic of an instruction (R76). -/
def Instr.mnemonic (i : Instr) : Mnemonic :=
  match i with
  | .adcIzx _ | .adcZp _ | .adcImm _ | .adcAbs _ | .adcIzy _ | .adcZpx _ | .adcAby _ | .adcAbx _ => .adc
  | .andIzx _ | .andZp _ | .andImm _ | .andAbs _ | .andIzy _ | .andZpx _ | .andAby _ | .andAbx _ => .and
  | .aslZp _ | .aslAcc | .aslAbs _ | .aslZpx _ | .aslAbx _ => .asl
  | .bcc _ => .bcc
  | .bcs _ => .bcs
  | .beq _ => .beq
  | .bitZp _ | .bitAbs _ => .bit
  | .bmi _ => .bmi
  | .bne _ => .bne
  | .bpl _ => .bpl
  | .brk => .brk
  | .bvc _ => .bvc
  | .bvs _ => .bvs
  | .clc => .clc
  | .cld => .cld
  | .cli => .cli
  | .clv => .clv
  | .cmpIzx _ | .cmpZp _ | .cmpImm _ | .cmpAbs _ | .cmpIzy _ | .cmpZpx _ | .cmpAby _ | .cmpAbx _ => .cmp
  | .cpxImm _ | .cpxZp _ | .cpxAbs _ => .cpx
  | .cpyImm _ | .cpyZp _ | .cpyAbs _ => .cpy
  | .decZp _ | .decAbs _ | .decZpx _ | .decAbx _ => .dec
  | .dex => .dex
  | .dey => .dey
  | .eorIzx _ | .eorZp _ | .eorImm _ | .eorAbs _ | .eorIzy _ | .eorZpx _ | .eorAby _ | .eorAbx _ => .eor
  | .incZp _ | .incAbs _ | .incZpx _ | .incAbx _ => .inc
  | .inx => .inx
  | .iny => .iny
  | .jmpAbs _ | .jmpInd _ => .jmp
  | .jsr _ => .jsr
  | .ldaIzx _ | .ldaZp _ | .ldaImm _ | .ldaAbs _ | .ldaIzy _ | .ldaZpx _ | .ldaAby _ | .ldaAbx _ => .lda
  | .ldxImm _ | .ldxZp _ | .ldxAbs _ | .ldxZpy _ | .ldxAby _ => .ldx
  | .ldyImm _ | .ldyZp _ | .ldyAbs _ | .ldyZpx _ | .ldyAbx _ => .ldy
  | .lsrZp _ | .lsrAcc | .lsrAbs _ | .lsrZpx _ | .lsrAbx _ => .lsr
  | .nop => .nop
  | .oraIzx _ | .oraZp _ | .oraImm _ | .oraAbs _ | .oraIzy _ | .oraZpx _ | .oraAby _ | .oraAbx _ => .ora
  | .pha => .pha
  | .php => .php
  | .pla => .pla
  | .plp => .plp
  | .rolZp _ | .rolAcc | .rolAbs _ | .rolZpx _ | .rolAbx _ => .rol
  | .rorZp _ | .rorAcc | .rorAbs _ | .rorZpx _ | .rorAbx _ => .ror
  | .rti => .rti
  | .rts => .rts
  | .sbcIzx _ | .sbcZp _ | .sbcImm _ | .sbcAbs _ | .sbcIzy _ | .sbcZpx _ | .sbcAby _ | .sbcAbx _ => .sbc
  | .sec => .sec
  | .sed => .sed
  | .sei => .sei
  | .staIzx _ | .staZp _ | .staAbs _ | .staIzy _ | .staZpx _ | .staAby _ | .staAbx _ => .sta
  | .stxZp _ | .stxAbs _ | .stxZpy _ => .stx
  | .styZp _ | .styAbs _ | .styZpx _ => .sty
  | .tax => .tax
  | .tay => .tay
  | .tsx => .tsx
  | .txa => .txa
  | .txs => .txs
  | .tya => .tya
  | .dcpIzx _ | .dcpZp _ | .dcpAbs _ | .dcpIzy _ | .dcpZpx _ | .dcpAby _ | .dcpAbx _ => .uDcp
  | .isbIzx _ | .isbZp _ | .isbAbs _ | .isbIzy _ | .isbZpx _ | .isbAby _ | .isbAbx _ => .uIsb
  | .laxIzx _ | .laxZp _ | .laxAbs _ | .laxIzy _ | .laxZpy _ | .laxAby _ => .uLax
  | .nopZp04 _ | .nopAbs0C _ | .nopZpx14 _ | .nop1A | .nopAbx1C _ | .nopZpx34 _ | .nop3A | .nopAbx3C _ |
    .nopZp44 _ | .nopZpx54 _ | .nop5A | .nopAbx5C _ | .nopZp64 _ | .nopZpx74 _ | .nop7A | .nopAbx7C _ |
    .nopImm80 _ | .nopZpxD4 _ | .nopDA | .nopAbxDC _ | .nopZpxF4 _ | .nopFA | .nopAbxFC _ => .uNop
  | .rlaIzx _ | .rlaZp _ | .rlaAbs _ | .rlaIzy _ | .rlaZpx _ | .rlaAby _ | .rlaAbx _ => .uRla
  | .rraIzx _ | .rraZp _ | .rraAbs _ | .rraIzy _ | .rraZpx _ | .rraAby _ | .rraAbx _ => .uRra
  | .saxIzx _ | .saxZp _ | .saxAbs _ | .saxZpy _ => .uSax
  | .sbcImmEB _ => .uSbc
  | .sloIzx _ | .sloZp _ | .sloAbs _ | .sloIzy _ | .sloZpx _ | .sloAby _ | .sloAbx _ => .uSlo
  | .sreIzx _ | .sreZp _ | .sreAbs _ | .sreIzy _ | .sreZpx _ | .sreAby _ | .sreAbx _ => .uSre
  | .unk02 | .unk0B | .unk12 | .unk22 | .unk2B | .unk32 | .unk42 | .unk4B | .unk52 | .unk62 | .unk6B |
    .unk72 | .unk82 | .unk89 | .unk8B | .unk92 | .unk93 | .unk9B | .unk9C | .unk9E | .unk9F | .unkAB |
    .unkB2 | .unkBB | .unkC2 | .unkCB | .unkD2 | .unkE2 | .unkF2 => .uUnk

/-- The operand bytes an instruction carries (R60): formats F1, F2, F3. -/
inductive OperandBytes where
  | none
  | byte (b : Byte)
  | word (w : Word)
  deriving DecidableEq, Repr

/-- The operand bytes of an instruction (R60). -/
def Instr.operandBytes (i : Instr) : OperandBytes :=
  match i with
  | .brk | .unk02 | .php | .aslAcc | .unk0B | .unk12 | .clc | .nop1A | .unk22 | .plp | .rolAcc | .unk2B |
    .unk32 | .sec | .nop3A | .rti | .unk42 | .pha | .lsrAcc | .unk4B | .unk52 | .cli | .nop5A | .rts |
    .unk62 | .pla | .rorAcc | .unk6B | .unk72 | .sei | .nop7A | .unk82 | .dey | .unk89 | .txa | .unk8B |
    .unk92 | .unk93 | .tya | .txs | .unk9B | .unk9C | .unk9E | .unk9F | .tay | .tax | .unkAB | .unkB2 |
    .clv | .tsx | .unkBB | .unkC2 | .iny | .dex | .unkCB | .unkD2 | .cld | .nopDA | .unkE2 | .inx | .nop |
    .unkF2 | .sed | .nopFA => .none
  | .oraIzx b | .sloIzx b | .nopZp04 b | .oraZp b | .aslZp b | .sloZp b | .oraImm b | .bpl b | .oraIzy b |
    .sloIzy b | .nopZpx14 b | .oraZpx b | .aslZpx b | .sloZpx b | .andIzx b | .rlaIzx b | .bitZp b |
    .andZp b | .rolZp b | .rlaZp b | .andImm b | .bmi b | .andIzy b | .rlaIzy b | .nopZpx34 b | .andZpx b |
    .rolZpx b | .rlaZpx b | .eorIzx b | .sreIzx b | .nopZp44 b | .eorZp b | .lsrZp b | .sreZp b |
    .eorImm b | .bvc b | .eorIzy b | .sreIzy b | .nopZpx54 b | .eorZpx b | .lsrZpx b | .sreZpx b |
    .adcIzx b | .rraIzx b | .nopZp64 b | .adcZp b | .rorZp b | .rraZp b | .adcImm b | .bvs b | .adcIzy b |
    .rraIzy b | .nopZpx74 b | .adcZpx b | .rorZpx b | .rraZpx b | .nopImm80 b | .staIzx b | .saxIzx b |
    .styZp b | .staZp b | .stxZp b | .saxZp b | .bcc b | .staIzy b | .styZpx b | .staZpx b | .stxZpy b |
    .saxZpy b | .ldyImm b | .ldaIzx b | .ldxImm b | .laxIzx b | .ldyZp b | .ldaZp b | .ldxZp b | .laxZp b |
    .ldaImm b | .bcs b | .ldaIzy b | .laxIzy b | .ldyZpx b | .ldaZpx b | .ldxZpy b | .laxZpy b |
    .cpyImm b | .cmpIzx b | .dcpIzx b | .cpyZp b | .cmpZp b | .decZp b | .dcpZp b | .cmpImm b | .bne b |
    .cmpIzy b | .dcpIzy b | .nopZpxD4 b | .cmpZpx b | .decZpx b | .dcpZpx b | .cpxImm b | .sbcIzx b |
    .isbIzx b | .cpxZp b | .sbcZp b | .incZp b | .isbZp b | .sbcImm b | .sbcImmEB b | .beq b | .sbcIzy b |
    .isbIzy b | .nopZpxF4 b | .sbcZpx b | .incZpx b | .isbZpx b => .byte b
  | .nopAbs0C w | .oraAbs w | .aslAbs w | .sloAbs w | .oraAby w | .sloAby w | .nopAbx1C w | .oraAbx w |
    .aslAbx w | .sloAbx w | .jsr w | .bitAbs w | .andAbs w | .rolAbs w | .rlaAbs w | .andAby w |
    .rlaAby w | .nopAbx3C w | .andAbx w | .rolAbx w | .rlaAbx w | .jmpAbs w | .eorAbs w | .lsrAbs w |
    .sreAbs w | .eorAby w | .sreAby w | .nopAbx5C w | .eorAbx w | .lsrAbx w | .sreAbx w | .jmpInd w |
    .adcAbs w | .rorAbs w | .rraAbs w | .adcAby w | .rraAby w | .nopAbx7C w | .adcAbx w | .rorAbx w |
    .rraAbx w | .styAbs w | .staAbs w | .stxAbs w | .saxAbs w | .staAby w | .staAbx w | .ldyAbs w |
    .ldaAbs w | .ldxAbs w | .laxAbs w | .ldaAby w | .ldyAbx w | .ldaAbx w | .ldxAby w | .laxAby w |
    .cpyAbs w | .cmpAbs w | .decAbs w | .dcpAbs w | .cmpAby w | .dcpAby w | .nopAbxDC w | .cmpAbx w |
    .decAbx w | .dcpAbx w | .cpxAbs w | .sbcAbs w | .incAbs w | .isbAbs w | .sbcAby w | .isbAby w |
    .nopAbxFC w | .sbcAbx w | .incAbx w | .isbAbx w => .word w

end Sys2Proof
end

