-- ==== Sys2Proof/WellFormed.lean ====
section
/-! DEFINITION. Well-formed instructions. "No field is narrower than a byte: there are no register fields, no
function fields and no immediate sub-fields" (spec/30_encoding.md R60), so an operand is any byte or any word,
which its type already says: the check holds of every term (Laws/WellFormed.lean). What can be ill formed is a
list of BYTES, which `wholeInstruction` of Decode.lean checks. -/

namespace Sys2Proof

/-- The operand fits the bytes its format gives it (R60). -/
def OperandBytes.fits (o : OperandBytes) : Bool :=
  match o with
  | .none => true
  | .byte b => decide (b.toNat < 256)
  | .word w => decide (w.toNat < 65536)

/-- An instruction is well formed when its operand fits (R60). -/
def Instr.wellFormed (i : Instr) : Bool := i.operandBytes.fits

end Sys2Proof
end

