-- ==== Sys2Proof/Decode.lean ====
section
/-! DEFINITION. The decoder, total on any bytes, and after it the encoder, both written from the tables of
spec/30_encoding.md R76: the decoder from the matrix (row = high nibble, column = low nibble), the encoder from
the list by mnemonic. Every opcode byte has an entry (R61, R77); what is refused, by name, is a list of bytes
too short for the instruction its first byte selects (R60). -/

namespace Sys2Proof

open Sys2Proof.Machine (wordOf loByte hiByte)

/-- An opcode's entry: the instruction of format F1, or what the operand bytes of F2, F3 are put into (R60). -/
inductive Shape where
  | one (i : Instr)
  | two (mk : Byte → Instr)
  | three (mk : Word → Instr)

/-- Row 0x of the opcode matrix (R76). -/
def opcodeRow0 : List Shape :=
  [.one .brk, .two .oraIzx, .one .unk02, .two .sloIzx,
   .two .nopZp04, .two .oraZp, .two .aslZp, .two .sloZp,
   .one .php, .two .oraImm, .one .aslAcc, .one .unk0B,
   .three .nopAbs0C, .three .oraAbs, .three .aslAbs, .three .sloAbs]

/-- Row 1x of the opcode matrix (R76). -/
def opcodeRow1 : List Shape :=
  [.two .bpl, .two .oraIzy, .one .unk12, .two .sloIzy,
   .two .nopZpx14, .two .oraZpx, .two .aslZpx, .two .sloZpx,
   .one .clc, .three .oraAby, .one .nop1A, .three .sloAby,
   .three .nopAbx1C, .three .oraAbx, .three .aslAbx, .three .sloAbx]

/-- Row 2x of the opcode matrix (R76). -/
def opcodeRow2 : List Shape :=
  [.three .jsr, .two .andIzx, .one .unk22, .two .rlaIzx,
   .two .bitZp, .two .andZp, .two .rolZp, .two .rlaZp,
   .one .plp, .two .andImm, .one .rolAcc, .one .unk2B,
   .three .bitAbs, .three .andAbs, .three .rolAbs, .three .rlaAbs]

/-- Row 3x of the opcode matrix (R76). -/
def opcodeRow3 : List Shape :=
  [.two .bmi, .two .andIzy, .one .unk32, .two .rlaIzy,
   .two .nopZpx34, .two .andZpx, .two .rolZpx, .two .rlaZpx,
   .one .sec, .three .andAby, .one .nop3A, .three .rlaAby,
   .three .nopAbx3C, .three .andAbx, .three .rolAbx, .three .rlaAbx]

/-- Row 4x of the opcode matrix (R76). -/
def opcodeRow4 : List Shape :=
  [.one .rti, .two .eorIzx, .one .unk42, .two .sreIzx,
   .two .nopZp44, .two .eorZp, .two .lsrZp, .two .sreZp,
   .one .pha, .two .eorImm, .one .lsrAcc, .one .unk4B,
   .three .jmpAbs, .three .eorAbs, .three .lsrAbs, .three .sreAbs]

/-- Row 5x of the opcode matrix (R76). -/
def opcodeRow5 : List Shape :=
  [.two .bvc, .two .eorIzy, .one .unk52, .two .sreIzy,
   .two .nopZpx54, .two .eorZpx, .two .lsrZpx, .two .sreZpx,
   .one .cli, .three .eorAby, .one .nop5A, .three .sreAby,
   .three .nopAbx5C, .three .eorAbx, .three .lsrAbx, .three .sreAbx]

/-- Row 6x of the opcode matrix (R76). -/
def opcodeRow6 : List Shape :=
  [.one .rts, .two .adcIzx, .one .unk62, .two .rraIzx,
   .two .nopZp64, .two .adcZp, .two .rorZp, .two .rraZp,
   .one .pla, .two .adcImm, .one .rorAcc, .one .unk6B,
   .three .jmpInd, .three .adcAbs, .three .rorAbs, .three .rraAbs]

/-- Row 7x of the opcode matrix (R76). -/
def opcodeRow7 : List Shape :=
  [.two .bvs, .two .adcIzy, .one .unk72, .two .rraIzy,
   .two .nopZpx74, .two .adcZpx, .two .rorZpx, .two .rraZpx,
   .one .sei, .three .adcAby, .one .nop7A, .three .rraAby,
   .three .nopAbx7C, .three .adcAbx, .three .rorAbx, .three .rraAbx]

/-- Row 8x of the opcode matrix (R76). -/
def opcodeRow8 : List Shape :=
  [.two .nopImm80, .two .staIzx, .one .unk82, .two .saxIzx,
   .two .styZp, .two .staZp, .two .stxZp, .two .saxZp,
   .one .dey, .one .unk89, .one .txa, .one .unk8B,
   .three .styAbs, .three .staAbs, .three .stxAbs, .three .saxAbs]

/-- Row 9x of the opcode matrix (R76). -/
def opcodeRow9 : List Shape :=
  [.two .bcc, .two .staIzy, .one .unk92, .one .unk93,
   .two .styZpx, .two .staZpx, .two .stxZpy, .two .saxZpy,
   .one .tya, .three .staAby, .one .txs, .one .unk9B,
   .one .unk9C, .three .staAbx, .one .unk9E, .one .unk9F]

/-- Row Ax of the opcode matrix (R76). -/
def opcodeRowA : List Shape :=
  [.two .ldyImm, .two .ldaIzx, .two .ldxImm, .two .laxIzx,
   .two .ldyZp, .two .ldaZp, .two .ldxZp, .two .laxZp,
   .one .tay, .two .ldaImm, .one .tax, .one .unkAB,
   .three .ldyAbs, .three .ldaAbs, .three .ldxAbs, .three .laxAbs]

/-- Row Bx of the opcode matrix (R76). -/
def opcodeRowB : List Shape :=
  [.two .bcs, .two .ldaIzy, .one .unkB2, .two .laxIzy,
   .two .ldyZpx, .two .ldaZpx, .two .ldxZpy, .two .laxZpy,
   .one .clv, .three .ldaAby, .one .tsx, .one .unkBB,
   .three .ldyAbx, .three .ldaAbx, .three .ldxAby, .three .laxAby]

/-- Row Cx of the opcode matrix (R76). -/
def opcodeRowC : List Shape :=
  [.two .cpyImm, .two .cmpIzx, .one .unkC2, .two .dcpIzx,
   .two .cpyZp, .two .cmpZp, .two .decZp, .two .dcpZp,
   .one .iny, .two .cmpImm, .one .dex, .one .unkCB,
   .three .cpyAbs, .three .cmpAbs, .three .decAbs, .three .dcpAbs]

/-- Row Dx of the opcode matrix (R76). -/
def opcodeRowD : List Shape :=
  [.two .bne, .two .cmpIzy, .one .unkD2, .two .dcpIzy,
   .two .nopZpxD4, .two .cmpZpx, .two .decZpx, .two .dcpZpx,
   .one .cld, .three .cmpAby, .one .nopDA, .three .dcpAby,
   .three .nopAbxDC, .three .cmpAbx, .three .decAbx, .three .dcpAbx]

/-- Row Ex of the opcode matrix (R76). -/
def opcodeRowE : List Shape :=
  [.two .cpxImm, .two .sbcIzx, .one .unkE2, .two .isbIzx,
   .two .cpxZp, .two .sbcZp, .two .incZp, .two .isbZp,
   .one .inx, .two .sbcImm, .one .nop, .two .sbcImmEB,
   .three .cpxAbs, .three .sbcAbs, .three .incAbs, .three .isbAbs]

/-- Row Fx of the opcode matrix (R76). -/
def opcodeRowF : List Shape :=
  [.two .beq, .two .sbcIzy, .one .unkF2, .two .isbIzy,
   .two .nopZpxF4, .two .sbcZpx, .two .incZpx, .two .isbZpx,
   .one .sed, .three .sbcAby, .one .nopFA, .three .isbAby,
   .three .nopAbxFC, .three .sbcAbx, .three .incAbx, .three .isbAbx]

/-- The 256-entry opcode matrix, by high nibble (R76). -/
def opcodeRows : List (List Shape) :=
  [opcodeRow0, opcodeRow1, opcodeRow2, opcodeRow3, opcodeRow4, opcodeRow5, opcodeRow6, opcodeRow7] ++
  [opcodeRow8, opcodeRow9, opcodeRowA, opcodeRowB, opcodeRowC, opcodeRowD, opcodeRowE, opcodeRowF]

/-- The entry of an opcode byte; all eight bits select it and nothing else does (R61, R78). -/
def shapeOf (op : Byte) : Shape :=
  (opcodeRows.getD (op >>> 4).toNat []).getD (op &&& 0x0F).toNat (.one .brk)

/-- The length of the instruction an opcode byte starts, from that byte alone (R60, R78). -/
def opcodeLength (op : Byte) : Nat :=
  match shapeOf op with
  | .one _ => 1
  | .two _ => 2
  | .three _ => 3

/-- Why a list of bytes is no instruction. -/
inductive DecodeError where
  /-- There is no opcode byte. -/
  | noOpcode
  /-- The instruction the opcode byte selects needs more bytes than there are. -/
  | truncated (op : Byte)
  deriving DecidableEq, Repr

/-- The instruction at the head of a list of bytes, and the bytes after it (R60, R61). -/
def decode (bytes : List Byte) : Except DecodeError (Instr × List Byte) :=
  match bytes with
  | [] => .error .noOpcode
  | op :: rest =>
    match shapeOf op, rest with
    | .one i, rest => .ok (i, rest)
    | .two mk, b1 :: rest => .ok (mk b1, rest)
    | .two _, [] => .error (.truncated op)
    | .three mk, b1 :: b2 :: rest => .ok (mk (wordOf b1 b2), rest)
    | .three _, _ => .error (.truncated op)

/-- Whether a list of bytes is exactly one whole instruction (R60). -/
def wholeInstruction (bytes : List Byte) : Bool :=
  match decode bytes with
  | .ok (_, []) => true
  | _ => false

/-- The opcode byte of an instruction, from the list by mnemonic (R76). -/
def Instr.opcode (i : Instr) : Byte :=
  match i with
  | .adcIzx _ => 0x61
  | .adcZp _ => 0x65
  | .adcImm _ => 0x69
  | .adcAbs _ => 0x6D
  | .adcIzy _ => 0x71
  | .adcZpx _ => 0x75
  | .adcAby _ => 0x79
  | .adcAbx _ => 0x7D
  | .andIzx _ => 0x21
  | .andZp _ => 0x25
  | .andImm _ => 0x29
  | .andAbs _ => 0x2D
  | .andIzy _ => 0x31
  | .andZpx _ => 0x35
  | .andAby _ => 0x39
  | .andAbx _ => 0x3D
  | .aslZp _ => 0x06
  | .aslAcc => 0x0A
  | .aslAbs _ => 0x0E
  | .aslZpx _ => 0x16
  | .aslAbx _ => 0x1E
  | .bcc _ => 0x90
  | .bcs _ => 0xB0
  | .beq _ => 0xF0
  | .bitZp _ => 0x24
  | .bitAbs _ => 0x2C
  | .bmi _ => 0x30
  | .bne _ => 0xD0
  | .bpl _ => 0x10
  | .brk => 0x00
  | .bvc _ => 0x50
  | .bvs _ => 0x70
  | .clc => 0x18
  | .cld => 0xD8
  | .cli => 0x58
  | .clv => 0xB8
  | .cmpIzx _ => 0xC1
  | .cmpZp _ => 0xC5
  | .cmpImm _ => 0xC9
  | .cmpAbs _ => 0xCD
  | .cmpIzy _ => 0xD1
  | .cmpZpx _ => 0xD5
  | .cmpAby _ => 0xD9
  | .cmpAbx _ => 0xDD
  | .cpxImm _ => 0xE0
  | .cpxZp _ => 0xE4
  | .cpxAbs _ => 0xEC
  | .cpyImm _ => 0xC0
  | .cpyZp _ => 0xC4
  | .cpyAbs _ => 0xCC
  | .decZp _ => 0xC6
  | .decAbs _ => 0xCE
  | .decZpx _ => 0xD6
  | .decAbx _ => 0xDE
  | .dex => 0xCA
  | .dey => 0x88
  | .eorIzx _ => 0x41
  | .eorZp _ => 0x45
  | .eorImm _ => 0x49
  | .eorAbs _ => 0x4D
  | .eorIzy _ => 0x51
  | .eorZpx _ => 0x55
  | .eorAby _ => 0x59
  | .eorAbx _ => 0x5D
  | .incZp _ => 0xE6
  | .incAbs _ => 0xEE
  | .incZpx _ => 0xF6
  | .incAbx _ => 0xFE
  | .inx => 0xE8
  | .iny => 0xC8
  | .jmpAbs _ => 0x4C
  | .jmpInd _ => 0x6C
  | .jsr _ => 0x20
  | .ldaIzx _ => 0xA1
  | .ldaZp _ => 0xA5
  | .ldaImm _ => 0xA9
  | .ldaAbs _ => 0xAD
  | .ldaIzy _ => 0xB1
  | .ldaZpx _ => 0xB5
  | .ldaAby _ => 0xB9
  | .ldaAbx _ => 0xBD
  | .ldxImm _ => 0xA2
  | .ldxZp _ => 0xA6
  | .ldxAbs _ => 0xAE
  | .ldxZpy _ => 0xB6
  | .ldxAby _ => 0xBE
  | .ldyImm _ => 0xA0
  | .ldyZp _ => 0xA4
  | .ldyAbs _ => 0xAC
  | .ldyZpx _ => 0xB4
  | .ldyAbx _ => 0xBC
  | .lsrZp _ => 0x46
  | .lsrAcc => 0x4A
  | .lsrAbs _ => 0x4E
  | .lsrZpx _ => 0x56
  | .lsrAbx _ => 0x5E
  | .nop => 0xEA
  | .oraIzx _ => 0x01
  | .oraZp _ => 0x05
  | .oraImm _ => 0x09
  | .oraAbs _ => 0x0D
  | .oraIzy _ => 0x11
  | .oraZpx _ => 0x15
  | .oraAby _ => 0x19
  | .oraAbx _ => 0x1D
  | .pha => 0x48
  | .php => 0x08
  | .pla => 0x68
  | .plp => 0x28
  | .rolZp _ => 0x26
  | .rolAcc => 0x2A
  | .rolAbs _ => 0x2E
  | .rolZpx _ => 0x36
  | .rolAbx _ => 0x3E
  | .rorZp _ => 0x66
  | .rorAcc => 0x6A
  | .rorAbs _ => 0x6E
  | .rorZpx _ => 0x76
  | .rorAbx _ => 0x7E
  | .rti => 0x40
  | .rts => 0x60
  | .sbcIzx _ => 0xE1
  | .sbcZp _ => 0xE5
  | .sbcImm _ => 0xE9
  | .sbcAbs _ => 0xED
  | .sbcIzy _ => 0xF1
  | .sbcZpx _ => 0xF5
  | .sbcAby _ => 0xF9
  | .sbcAbx _ => 0xFD
  | .sec => 0x38
  | .sed => 0xF8
  | .sei => 0x78
  | .staIzx _ => 0x81
  | .staZp _ => 0x85
  | .staAbs _ => 0x8D
  | .staIzy _ => 0x91
  | .staZpx _ => 0x95
  | .staAby _ => 0x99
  | .staAbx _ => 0x9D
  | .stxZp _ => 0x86
  | .stxAbs _ => 0x8E
  | .stxZpy _ => 0x96
  | .styZp _ => 0x84
  | .styAbs _ => 0x8C
  | .styZpx _ => 0x94
  | .tax => 0xAA
  | .tay => 0xA8
  | .tsx => 0xBA
  | .txa => 0x8A
  | .txs => 0x9A
  | .tya => 0x98
  | .dcpIzx _ => 0xC3
  | .dcpZp _ => 0xC7
  | .dcpAbs _ => 0xCF
  | .dcpIzy _ => 0xD3
  | .dcpZpx _ => 0xD7
  | .dcpAby _ => 0xDB
  | .dcpAbx _ => 0xDF
  | .isbIzx _ => 0xE3
  | .isbZp _ => 0xE7
  | .isbAbs _ => 0xEF
  | .isbIzy _ => 0xF3
  | .isbZpx _ => 0xF7
  | .isbAby _ => 0xFB
  | .isbAbx _ => 0xFF
  | .laxIzx _ => 0xA3
  | .laxZp _ => 0xA7
  | .laxAbs _ => 0xAF
  | .laxIzy _ => 0xB3
  | .laxZpy _ => 0xB7
  | .laxAby _ => 0xBF
  | .nopZp04 _ => 0x04
  | .nopAbs0C _ => 0x0C
  | .nopZpx14 _ => 0x14
  | .nop1A => 0x1A
  | .nopAbx1C _ => 0x1C
  | .nopZpx34 _ => 0x34
  | .nop3A => 0x3A
  | .nopAbx3C _ => 0x3C
  | .nopZp44 _ => 0x44
  | .nopZpx54 _ => 0x54
  | .nop5A => 0x5A
  | .nopAbx5C _ => 0x5C
  | .nopZp64 _ => 0x64
  | .nopZpx74 _ => 0x74
  | .nop7A => 0x7A
  | .nopAbx7C _ => 0x7C
  | .nopImm80 _ => 0x80
  | .nopZpxD4 _ => 0xD4
  | .nopDA => 0xDA
  | .nopAbxDC _ => 0xDC
  | .nopZpxF4 _ => 0xF4
  | .nopFA => 0xFA
  | .nopAbxFC _ => 0xFC
  | .rlaIzx _ => 0x23
  | .rlaZp _ => 0x27
  | .rlaAbs _ => 0x2F
  | .rlaIzy _ => 0x33
  | .rlaZpx _ => 0x37
  | .rlaAby _ => 0x3B
  | .rlaAbx _ => 0x3F
  | .rraIzx _ => 0x63
  | .rraZp _ => 0x67
  | .rraAbs _ => 0x6F
  | .rraIzy _ => 0x73
  | .rraZpx _ => 0x77
  | .rraAby _ => 0x7B
  | .rraAbx _ => 0x7F
  | .saxIzx _ => 0x83
  | .saxZp _ => 0x87
  | .saxAbs _ => 0x8F
  | .saxZpy _ => 0x97
  | .sbcImmEB _ => 0xEB
  | .sloIzx _ => 0x03
  | .sloZp _ => 0x07
  | .sloAbs _ => 0x0F
  | .sloIzy _ => 0x13
  | .sloZpx _ => 0x17
  | .sloAby _ => 0x1B
  | .sloAbx _ => 0x1F
  | .sreIzx _ => 0x43
  | .sreZp _ => 0x47
  | .sreAbs _ => 0x4F
  | .sreIzy _ => 0x53
  | .sreZpx _ => 0x57
  | .sreAby _ => 0x5B
  | .sreAbx _ => 0x5F
  | .unk02 => 0x02
  | .unk0B => 0x0B
  | .unk12 => 0x12
  | .unk22 => 0x22
  | .unk2B => 0x2B
  | .unk32 => 0x32
  | .unk42 => 0x42
  | .unk4B => 0x4B
  | .unk52 => 0x52
  | .unk62 => 0x62
  | .unk6B => 0x6B
  | .unk72 => 0x72
  | .unk82 => 0x82
  | .unk89 => 0x89
  | .unk8B => 0x8B
  | .unk92 => 0x92
  | .unk93 => 0x93
  | .unk9B => 0x9B
  | .unk9C => 0x9C
  | .unk9E => 0x9E
  | .unk9F => 0x9F
  | .unkAB => 0xAB
  | .unkB2 => 0xB2
  | .unkBB => 0xBB
  | .unkC2 => 0xC2
  | .unkCB => 0xCB
  | .unkD2 => 0xD2
  | .unkE2 => 0xE2
  | .unkF2 => 0xF2

/-- The bytes of an instruction: the opcode, then the operand, low byte first (R60, R42). -/
def encode (i : Instr) : List Byte :=
  match i.operandBytes with
  | .none => [i.opcode]
  | .byte b => [i.opcode, b]
  | .word w => [i.opcode, loByte w, hiByte w]

/-- Byte `k` of the bits `w`, numbered as spec/opcode_table.json numbers them: byte 0 is the opcode. -/
def tableByte (w k : Nat) : Byte := BitVec.ofNat 8 (w >>> (8 * k))

/-- The three bytes of an opcode-table word of `nbits` bits, every bit above them 0. -/
def tableBytes (nbits w : Nat) : List Byte :=
  [tableByte (w % 2 ^ nbits) 0, tableByte (w % 2 ^ nbits) 1, tableByte (w % 2 ^ nbits) 2]

/-- The instruction this decoder reads from an opcode-table word (the host's question). -/
def decodeTableWord (nbits w : Nat) : Option Instr :=
  match decode (tableBytes nbits w) with
  | .ok (i, _) => some i
  | .error _ => none

end Sys2Proof
end

