-- ==== Sys2Proof/Config.lean ====
section
/-! DEFINITION. The parameters of spec/00_scope.md R6 at the defaults the spec decides, and the two
parameters that have no default: the palette and a cartridge other than `FLAT32`. Those two are opaque:
no proof can learn a value of them, so a claim holds whatever they are. -/

namespace Sys2Proof

/-- `TICK_ORDER` (R6, R34, D4): whether a bus cycle ticks before or after its access. -/
inductive TickOrder where
  | tickFirst
  | accessFirst
  deriving DecidableEq, Repr

/-- The nametable mirroring modes a mapper may report (R272, R345). -/
inductive Mirroring where
  | horizontal
  | vertical
  | singleScreenA
  | singleScreenB
  | fourScreen
  deriving DecidableEq, Repr, Inhabited

/-- The contents of the four memories after construction, each byte by its index (R6, R23). A byte that is not
listed is 0. -/
structure RamInit where
  ram  : List (Nat × Byte) := []
  vram : List (Nat × Byte) := []
  pal  : List (Nat × Byte) := []
  oam  : List (Nat × Byte) := []
  deriving DecidableEq, Repr

namespace Config

/-- `TICK_ORDER`, default tick first (R6, R34, D4). Assumption log 9. -/
def tickOrder : TickOrder := .tickFirst

/-- `ZPY_TICK`, default 1: zero-page,Y ticks like zero-page,X (R6, R67, C2, D3). Assumption log 10. -/
def zpyTick : Bool := true

/-- `DMA_PARITY`, default: the extra tick when the cycle counter is odd (R6, R44, D16). Assumption log 11. -/
def dmaExtraWhenOdd : Bool := true

/-- `RAM_INIT`, default all zero: the contents of `ram`, `vram`, `pal` and `oam` after construction (R6, R23,
D14). Assumption log 5. -/
def ramInit : RamInit := {}

/-- `CYCLE_WIDTH`, the width of the cycle counter in bits, default none: unbounded (R6, R16, D13). Assumption
log 17. -/
def cycleWidth : Option Nat := none

/-- The cycle counter one further, mod 2 to the power of its width where it has one (R16, R33). -/
def nextCycle (n : Nat) : Nat :=
  match cycleWidth with
  | none => n + 1
  | some w => (n + 1) % 2 ^ w

/-- `PPU_RESET_POS`, default scanline 0 (R6, R23, D31). Assumption log 6. -/
def ppuResetScanline : Int := 0

/-- `PPU_RESET_POS`, default dot 0 (R6, R23, D31). Assumption log 6. -/
def ppuResetDot : Nat := 0

/-- `FRAME_READY_POS`, default scanline 240 (R6, R266, D34). Assumption log 12. -/
def frameReadyScanline : Int := 240

/-- `FRAME_READY_POS`, default dot 0 (R6, R266, D34). Assumption log 12. -/
def frameReadyDot : Nat := 0

/-- `APU_PARITY`: the value of `apu_parity`, after its flip, on which the pulse and noise timers are
clocked; 0 makes them the even ticks after reset (R6, R310, D52). Assumption log 15. -/
def apuClockParity : Bool := false

/-- `PULSE_SCALE` (R6, R320, D55). Assumption log 14. -/
def pulseScale : Int := 1

/-- `TRI_SCALE` (R6, R320, D55). Assumption log 14. -/
def triScale : Int := 1

/-- `NOISE_SCALE` (R6, R320, D55). Assumption log 14. -/
def noiseScale : Int := 1

/-- `MIX_SCALE` (R6, R320, D55). Assumption log 14. -/
def mixScale : Int := 256

/-- `INPUT_MAP`: which controller and which button a `send_input` index reaches; `none` is no effect
(R6, R350, D61). The first part is `true` for controller 2. Assumption log 16. -/
def inputMap (k : Nat) : Option (Bool × Nat) :=
  if k < 8 then some (false, k) else if k < 16 then some (true, k - 8) else none

/-- `PALETTE`: the 32-bit word, in 0xAABBGGRR order, of each of the 64 colours (R6, R285, R354, D45).
The spec gives no contents. Assumption log 13. -/
opaque palette : BitVec 6 → BitVec 32

/-- `cpu_read` of a cartridge other than `FLAT32`: the byte and the cartridge's state after (R345).
Assumption log 1. -/
opaque mapperCpuRead : List Nat → Word → Byte × List Nat

/-- `cpu_write` of a cartridge other than `FLAT32` (R345). Assumption log 1. -/
opaque mapperCpuWrite : List Nat → Word → Byte → List Nat

/-- `ppu_read` of a cartridge other than `FLAT32` (R345). Assumption log 1. -/
opaque mapperPpuRead : List Nat → BitVec 14 → Byte × List Nat

/-- `ppu_write` of a cartridge other than `FLAT32` (R345). Assumption log 1. -/
opaque mapperPpuWrite : List Nat → BitVec 14 → Byte → List Nat

/-- `mirroring` of a cartridge other than `FLAT32`; it changes no state (R345). Assumption log 1. -/
opaque mapperMirroring : List Nat → Mirroring

end Config

end Sys2Proof
end

