-- ==== Sys2Proof/Machine/Memory.lean ====
section
/-! DEFINITION. Byte memory as plain data: a list of (address, byte) pairs in ONE canonical form, strictly
rising addresses and no entry equal to what an unlisted address reads as. The same form, over other value
types, holds the framebuffer and the audio ring. -/

namespace Sys2Proof.Machine

/-- A table by natural-number key; a key that is not listed holds the default `d` its reader names. -/
abbrev Sparse (β : Type) := List (Nat × β)

/-- The value at key `k`, `d` where nothing is listed. -/
def sparseGet {β : Type} (d : β) : Sparse β → Nat → β
  | [], _ => d
  | e :: m, k => if e.1 = k then e.2 else sparseGet d m k

/-- The table without key `k`. -/
def sparseErase {β : Type} (k : Nat) : Sparse β → Sparse β
  | [] => []
  | e :: m => if e.1 = k then sparseErase k m else e :: sparseErase k m

/-- The table with an entry put before the first larger key. -/
def sparseInsert {β : Type} (k : Nat) (v : β) : Sparse β → Sparse β
  | [] => [(k, v)]
  | e :: m => if k < e.1 then (k, v) :: e :: m else e :: sparseInsert k v m

/-- `v` stored at key `k`, keeping the canonical form: storing the default removes the entry. -/
def sparseSet {β : Type} [DecidableEq β] (d : β) (m : Sparse β) (k : Nat) (v : β) : Sparse β :=
  if v = d then sparseErase k m else sparseInsert k v (sparseErase k m)

/-- The canonical form from key `from_` up to but not including `n`: keys strictly rise, none lies
outside the range, no entry holds the default. -/
def sparseWfFrom {β : Type} [DecidableEq β] (d : β) (n : Nat) : Nat → Sparse β → Bool
  | _, [] => true
  | from_, (k, v) :: m => decide (from_ ≤ k) && decide (k < n) && decide (v ≠ d) && sparseWfFrom d n (k + 1) m

/-- The canonical form of a table of `n` keys. -/
def sparseWf {β : Type} [DecidableEq β] (d : β) (n : Nat) (m : Sparse β) : Bool :=
  sparseWfFrom d n 0 m

/-- Byte memory. What an unlisted address reads as is `Memory.unlisted`. -/
abbrev Memory := List Host.Cell

/-- What an unlisted byte reads as (log 5). Every contents can be listed, so this is the form of the data and not
a choice of contents: those are `RAM_INIT` and the cartridge's. -/
def Memory.unlisted : Byte := 0

/-- One byte of memory. -/
def Memory.read (m : Memory) (a : Nat) : Byte := sparseGet Memory.unlisted m a

/-- One byte of memory stored. -/
def Memory.write (m : Memory) (a : Nat) (v : Byte) : Memory := sparseSet Memory.unlisted m a v

/-- The canonical form of a memory of `n` bytes. -/
def Memory.wf (n : Nat) (m : Memory) : Bool := sparseWf Memory.unlisted n m

end Sys2Proof.Machine
end

