-- ==== Sys2Proof/Machine/Cartridge.lean ====
section
/-! DEFINITION. The cartridge (mapper) interface of spec/63_controllers_and_host.md R345: the five functions,
for the spec's own `FLAT32` (R346) and for any other cartridge, whose five functions are the opaque
parameters of Config.lean over a state that is a list of numbers. -/

namespace Sys2Proof.Machine

/-- State of `FLAT32` (R346): `prg` 32768 bytes and `mir` are constant, `wram` and `chr` 8192 bytes each. -/
structure Flat32 where
  prg  : Memory
  wram : Memory
  chr  : Memory
  mir  : Mirroring
  deriving DecidableEq, Repr

/-- The mapper's state (R22, R345): `FLAT32`, or another cartridge whose state is a list of numbers read
and written only by the five functions of Config.lean. -/
inductive Mapper where
  | flat32 (f : Flat32)
  | custom (st : List Nat)
  deriving DecidableEq, Repr

/-- `FLAT32` with nothing in it: every byte reads 0, horizontal mirroring (R346, log 2). -/
def Mapper.empty : Mapper := .flat32 { prg := [], wram := [], chr := [], mir := .horizontal }

/-- The byte index inside `prg` of a CPU address $8000 to $FFFF: `addr - 0x8000` (R346). -/
def prgIndex (a : Word) : Nat := (a.setWidth 15).toNat

/-- The byte index inside `wram` of a CPU address $6000 to $7FFF: `addr - 0x6000` (R346). -/
def wramIndex (a : Word) : Nat := (a.setWidth 13).toNat

/-- The byte index inside `chr`: `a & 0x1FFF` (R346). -/
def chrIndex (a : BitVec 14) : Nat := (a.setWidth 13).toNat

/-- `cpu_read(addr)`, called for CPU reads of $6000 to $FFFF (R345, R346). -/
def Mapper.cpuRead (c : Mapper) (a : Word) : Byte × Mapper :=
  match c with
  | .flat32 f => (if a.msb then f.prg.read (prgIndex a) else f.wram.read (wramIndex a), c)
  | .custom st => ((Config.mapperCpuRead st a).1, .custom (Config.mapperCpuRead st a).2)

/-- `cpu_write(addr, v)`, called for CPU writes of $6000 to $FFFF (R345, R346). -/
def Mapper.cpuWrite (c : Mapper) (a : Word) (v : Byte) : Mapper :=
  match c with
  | .flat32 f => if a.msb then c else .flat32 { f with wram := f.wram.write (wramIndex a) v }
  | .custom st => .custom (Config.mapperCpuWrite st a v)

/-- `ppu_read(a)` (R345, R346). -/
def Mapper.ppuRead (c : Mapper) (a : BitVec 14) : Byte × Mapper :=
  match c with
  | .flat32 f => (f.chr.read (chrIndex a), c)
  | .custom st => ((Config.mapperPpuRead st a).1, .custom (Config.mapperPpuRead st a).2)

/-- `ppu_write(a, v)` (R345, R346). -/
def Mapper.ppuWrite (c : Mapper) (a : BitVec 14) (v : Byte) : Mapper :=
  match c with
  | .flat32 f => .flat32 { f with chr := f.chr.write (chrIndex a) v }
  | .custom st => .custom (Config.mapperPpuWrite st a v)

/-- `mirroring`; reading it changes nothing (R345, R346). -/
def Mapper.mirroring (c : Mapper) : Mirroring :=
  match c with
  | .flat32 f => f.mir
  | .custom st => Config.mapperMirroring st

end Sys2Proof.Machine
end

