-- ==== Sys2Proof/Machine/State.lean ====
section
/-! DEFINITION. The whole state of the machine as plain data (spec/10_state.md R10 to R22), the state
after reset (R23, R360), and the two closed types of reasons a step could stop. -/

namespace Sys2Proof.Machine

/-- One entry of secondary OAM (R19): the sprite's four bytes and its primary index. -/
structure SecEntry where
  y    : Byte
  tile : Byte
  attr : Byte
  x    : Byte
  id   : BitVec 6
  deriving DecidableEq, Repr

/-- One sprite output unit of the current scanline (R19, R281); flip-h and flip-v are bits 6 and 7 of `attr`. -/
structure SprUnit where
  lo    : Byte := 0
  hi    : Byte := 0
  attr  : Byte := 0
  xcnt  : Byte := 0
  id    : BitVec 6 := 0
  valid : Bool := false
  deriving DecidableEq, Repr

/-- The picture unit (R17, R19). `sec` lists the valid entries of secondary OAM, so `sec_count` is its
length. `fb` holds at key `256 * row + column` the colour index `c` whose word is `PALETTE[c]`; a pixel
never written is not listed and is the word 0 (log 13). -/
structure Ppu where
  vram           : Memory := []
  pal            : Memory := []
  oam            : Memory := []
  oamAddr        : Byte := 0
  sec            : List SecEntry := []
  spr            : List SprUnit := List.replicate 8 {}
  bgPatLo        : BitVec 16 := 0
  bgPatHi        : BitVec 16 := 0
  bgAttrLo       : Byte := 0
  bgAttrHi       : Byte := 0
  atLatchLo      : Bool := false
  atLatchHi      : Bool := false
  ntByte         : Byte := 0
  atBits         : BitVec 2 := 0
  patLo          : Byte := 0
  patHi          : Byte := 0
  v              : BitVec 15 := 0
  t              : BitVec 15 := 0
  x              : BitVec 3 := 0
  w              : Bool := false
  dot            : Nat := Config.ppuResetDot
  scanline       : Int := Config.ppuResetScanline
  oddFrame       : Bool := false
  vblank         : Bool := false
  sprite0Hit     : Bool := false
  spriteOverflow : Bool := false
  ctrl           : Byte := 0
  mask           : Byte := 0
  readBuffer     : Byte := 0
  pendingNmi     : Bool := false
  frameReady     : Bool := false
  fb             : Sparse (Option (BitVec 6)) := []
  deriving DecidableEq, Repr

/-- A pulse channel (R20). -/
structure Pulse where
  enabled     : Bool := false
  halt        : Bool := false
  duty        : BitVec 2 := 0
  volume      : BitVec 4 := 0
  timerLoad   : BitVec 11 := 0
  timer       : BitVec 11 := 0
  pos         : BitVec 3 := 0
  lengthValue : Byte := 0
  deriving DecidableEq, Repr

/-- The triangle channel (R20). -/
structure Triangle where
  enabled       : Bool := false
  control       : Bool := false
  linearReload  : BitVec 7 := 0
  timerLoad     : BitVec 11 := 0
  timer         : BitVec 11 := 0
  pos           : BitVec 5 := 0
  lengthValue   : Byte := 0
  linearCounter : BitVec 7 := 0
  reloadLinear  : Bool := false
  deriving DecidableEq, Repr

/-- The noise channel (R20); the LFSR is seeded to 1. -/
structure Noise where
  enabled     : Bool := false
  halt        : Bool := false
  volume      : BitVec 4 := 0
  mode        : Bool := false
  timerLoad   : BitVec 12 := 0
  timer       : BitVec 12 := 0
  lfsr        : BitVec 15 := 1
  lengthValue : Byte := 0
  deriving DecidableEq, Repr

/-- The audio consumer, the host's agent that removes samples from the ring while the CPU runs (R8, R325, R326):
the model's own fields, no register of the machine (log 22). The head of `turns` is how many removals the consumer
makes between now and the next `ring_push`, the next entry how many between that push and the one after, and so on;
a push with no entry left finds the consumer idle. `out` holds every sample handed to the host, oldest first. -/
structure Consumer where
  turns : List Nat := []
  out   : List (BitVec 16) := []
  deriving DecidableEq, Repr

/-- The audio unit (R20): channels, frame counter, sampler accumulator, and the 4096-entry ring with its
producer index `widx` and its consumer index `ridx`; beside them the consumer, whose turns fall between pushes. -/
structure Apu where
  p1       : Pulse := {}
  p2       : Pulse := {}
  tri      : Triangle := {}
  ns       : Noise := {}
  fcDiv    : Nat := 0
  fcStep   : Nat := 0
  fcMode5  : Bool := false
  parity   : Bool := false
  acc      : Nat := 0
  ring     : Sparse (BitVec 16) := []
  widx     : BitVec 12 := 0
  ridx     : BitVec 12 := 0
  consumer : Consumer := {}
  deriving DecidableEq, Repr

/-- The two controllers (R21): latched shift registers, live buttons, and the one shared strobe bit. -/
structure Pads where
  strobe   : Bool := false
  shift0   : Byte := 0
  shift1   : Byte := 0
  buttons0 : Byte := 0
  buttons1 : Byte := 0
  deriving DecidableEq, Repr

/-- A host log entry (R352): nothing in the machine reads it. -/
inductive LogEvent where
  | unknownOpcode (op : Byte) (pc0 : Word)
  | illegalRead (addr : Word)
  deriving DecidableEq, Repr

/-- The machine's state: CPU registers (R10 to R13), the cycle counter (R16), work RAM (R18), the devices
(R19 to R21), the cartridge (R22), and the host's log as a trace, newest event first (R352, log 21). -/
structure State where
  a     : Byte
  x     : Byte
  y     : Byte
  sp    : Byte
  pc    : Word
  p     : Byte
  cycle : Nat
  ram   : Memory
  ppu   : Ppu
  apu   : Apu
  pads  : Pads
  cart  : Mapper
  log   : List LogEvent
  deriving DecidableEq, Repr

/-- Reasons a step could stop the machine. THERE ARE NONE: "No instruction can fault: there is no
illegal-instruction trap, no access fault, no alignment fault, no arithmetic trap" (R221), and every step
terminates (R220). The type is empty, so nobody raises it. -/
inductive Fault where
  deriving DecidableEq, Repr

/-- Reasons the model gives no meaning. -/
inductive Refusal where
  /-- Raised only by an arm of `exec` whose instruction has no meaning yet; no arm is left so. Safe. -/
  | notModelled (mnemonic : String)
  deriving DecidableEq, Repr

/-- The freshly constructed machine with the memory contents `init` and the cartridge `c`, before `reset` has run
(R23): `PC`, `SP`, `P` and `cycle` hold 0 until `reset` assigns them. -/
def State.constructedFrom (init : RamInit) (c : Mapper) : State where
  a := 0
  x := 0
  y := 0
  sp := 0
  pc := 0
  p := 0
  cycle := 0
  ram := init.ram
  ppu := { vram := init.vram, pal := init.pal, oam := init.oam }
  apu := {}
  pads := {}
  cart := c
  log := []

/-- The machine right after construction and `reset`, for any value of `RAM_INIT` and any cartridge (R23, R360):
`PC` is the word at $FFFC/$FFFD, which lies in the cartridge's range, so its two reads are the cartridge's. -/
def State.resetFrom (init : RamInit) (c : Mapper) : State :=
  let lo := c.cpuRead 0xFFFC
  let hi := lo.2.cpuRead 0xFFFD
  { State.constructedFrom init hi.2 with
      pc := wordOf lo.1 hi.1
      sp := 0xFD
      p := 0x24
      cycle := 7 }

/-- The machine right after reset, with cartridge `c` and the memory contents `RAM_INIT` (R6, R23, R360). -/
def State.resetWith (c : Mapper) : State := State.resetFrom Config.ramInit c

/-- The machine right after reset (R23, R360), with the empty `FLAT32` cartridge (log 2). -/
def State.reset : State := State.resetWith Mapper.empty

end Sys2Proof.Machine
end

