-- ==== Sys2Proof/Machine/Apu.lean ====
section
/-! DEFINITION. The APU (spec/62_apu.md R300 to R326): its ports, its channels, the frame counter, the
sampler and both ends of the ring buffer. -/

namespace Sys2Proof.Machine

/-! ### Tables -/

/-- The length table (R308). -/
def lengthTable : List Byte :=
  [10, 254, 20, 2, 40, 4, 80, 6, 160, 8, 60, 10, 14, 12, 26, 14] ++
  [12, 16, 24, 18, 48, 20, 96, 22, 192, 24, 72, 26, 16, 28, 32, 30]

/-- `LEN[i]` (R308). -/
def lengthOf (i : BitVec 5) : Byte := lengthTable.getD i.toNat 0

/-- The eight steps of each duty waveform, step 0 first (R312). -/
def dutyTable : List (List Bool) :=
  [[false, true, false, false, false, false, false, false],
   [false, true, true, false, false, false, false, false],
   [false, true, true, true, true, false, false, false],
   [true, false, false, true, true, true, true, true]]

/-- `DUTY[duty][pos]` (R312). -/
def dutyHigh (duty : BitVec 2) (pos : BitVec 3) : Bool := (dutyTable.getD duty.toNat []).getD pos.toNat false

/-- `TRI[pos]`: 15 down to 0, then 0 up to 15 (R314). -/
def triLevel (pos : BitVec 5) : Int := if pos.toNat < 16 then 15 - pos.toNat else pos.toNat - 16

/-- The noise timer loads (R316). -/
def noiseLoads : List (BitVec 12) :=
  [1, 3, 7, 15, 31, 47, 63, 79, 100, 126, 189, 253, 380, 507, 1016, 2033]

/-- `NOISE_LOAD[i]` (R316). -/
def noiseLoad (i : BitVec 4) : BitVec 12 := noiseLoads.getD i.toNat 0

/-! ### Ports -/

/-- The timer with its low eight bits replaced (R301, R302). -/
def timerLow (tl : BitVec 11) (b : Byte) : BitVec 11 := (tl &&& 0x700) ||| b.setWidth 11

/-- The timer with its high three bits replaced by `b[2:0]` (R301, R302). -/
def timerHigh (tl : BitVec 11) (b : Byte) : BitVec 11 := (tl &&& 0x0FF) ||| ((b &&& 7).setWidth 11 <<< 8)

/-- The 5-bit length index `b[7:3]`. -/
def lengthIndex (b : Byte) : BitVec 5 := (b >>> 3).setWidth 5

/-- `length_load(ch, i)` as the new length: loaded only while the channel is enabled (R309). -/
def lengthLoad (enabled : Bool) (old : Byte) (b : Byte) : Byte := if enabled then lengthOf (lengthIndex b) else old

/-- Pulse register `r` (0 to 3) written; register 1 is the absent sweep (R301). -/
def pulseWrite (ch : Pulse) (r : BitVec 2) (b : Byte) : Pulse :=
  if r = 0 then { ch with duty := (b >>> 6).setWidth 2, halt := b.getLsbD 5, volume := b.setWidth 4 }
  else if r = 1 then ch
  else if r = 2 then { ch with timerLoad := timerLow ch.timerLoad b }
  else
    { ch with
        timerLoad := timerHigh ch.timerLoad b
        lengthValue := lengthLoad ch.enabled ch.lengthValue b
        pos := 0 }

/-- Triangle register `r` written; register 1 is unused (R302). -/
def triWrite (ch : Triangle) (r : BitVec 2) (b : Byte) : Triangle :=
  if r = 0 then { ch with control := b.getLsbD 7, linearReload := b.setWidth 7 }
  else if r = 1 then ch
  else if r = 2 then { ch with timerLoad := timerLow ch.timerLoad b }
  else
    { ch with
        timerLoad := timerHigh ch.timerLoad b
        lengthValue := lengthLoad ch.enabled ch.lengthValue b
        reloadLinear := true }

/-- Noise register `r` written; register 1 is unused (R303). -/
def noiseWrite (ch : Noise) (r : BitVec 2) (b : Byte) : Noise :=
  if r = 0 then { ch with halt := b.getLsbD 5, volume := b.setWidth 4 }
  else if r = 1 then ch
  else if r = 2 then { ch with mode := b.getLsbD 7, timerLoad := noiseLoad (b.setWidth 4) }
  else { ch with lengthValue := lengthLoad ch.enabled ch.lengthValue b }

/-- A length counter after an enable write: cleared on disable (R305). -/
def lengthEnabled (en : Bool) (old : Byte) : Byte := if en then old else 0

/-- `enable_write(b)`, the $4015 write (R305). -/
def enableWrite (u : Apu) (b : Byte) : Apu :=
  { u with
      p1 := { u.p1 with enabled := b.getLsbD 0, lengthValue := lengthEnabled (b.getLsbD 0) u.p1.lengthValue }
      p2 := { u.p2 with enabled := b.getLsbD 1, lengthValue := lengthEnabled (b.getLsbD 1) u.p2.lengthValue }
      tri := { u.tri with enabled := b.getLsbD 2, lengthValue := lengthEnabled (b.getLsbD 2) u.tri.lengthValue }
      ns := { u.ns with enabled := b.getLsbD 3, lengthValue := lengthEnabled (b.getLsbD 3) u.ns.lengthValue } }

/-- `apu_status_read()`, the $4015 read: which length counters are not zero; no side effect (R306). -/
def apuStatusRead (u : Apu) : Byte :=
  bitOf 8 (u.p1.lengthValue != 0) ||| bitOf 8 (u.p2.lengthValue != 0) <<< 1 |||
    bitOf 8 (u.tri.lengthValue != 0) <<< 2 ||| bitOf 8 (u.ns.lengthValue != 0) <<< 3

/-! ### Frame counter -/

/-- `quarter_frame()` on the triangle: the linear counter (R318). -/
def triQuarter (t : Triangle) : Triangle :=
  { t with
      linearCounter :=
        if t.reloadLinear then t.linearReload
        else if t.linearCounter = 0 then t.linearCounter else t.linearCounter - 1
      reloadLinear := t.reloadLinear && t.control }

/-- `quarter_frame()` (R318). -/
def quarterFrame (u : Apu) : Apu := { u with tri := triQuarter u.tri }

/-- A length counter clocked by a half frame: down by one unless halted or 0 (R319). -/
def lengthClock (halt : Bool) (v : Byte) : Byte := if halt = false ∧ v ≠ 0 then v - 1 else v

/-- `half_frame()`: the four length counters (R319). -/
def halfFrame (u : Apu) : Apu :=
  { u with
      p1 := { u.p1 with lengthValue := lengthClock u.p1.halt u.p1.lengthValue }
      p2 := { u.p2 with lengthValue := lengthClock u.p2.halt u.p2.lengthValue }
      ns := { u.ns with lengthValue := lengthClock u.ns.halt u.ns.lengthValue }
      tri := { u.tri with lengthValue := lengthClock u.tri.control u.tri.lengthValue } }

/-- `frame_write(b)`, the $4017 write: mode, restart, and the immediate clock in 5-step mode (R307). -/
def frameWrite (u : Apu) (b : Byte) : Apu :=
  let u1 := { u with fcMode5 := b.getLsbD 7, fcDiv := 0, fcStep := 0 }
  if b.getLsbD 7 then halfFrame (quarterFrame u1) else u1

/-- One position of the 4-step or 5-step sequence (R317). -/
def frameSequence (u : Apu) : Apu :=
  if u.fcMode5 then
    let u1 := if u.fcStep ≠ 3 then quarterFrame u else u
    let u2 := if u.fcStep = 1 ∨ u.fcStep = 4 then halfFrame u1 else u1
    { u2 with fcStep := (u.fcStep + 1) % 5 }
  else
    let u1 := quarterFrame u
    let u2 := if u.fcStep = 1 ∨ u.fcStep = 3 then halfFrame u1 else u1
    { u2 with fcStep := (u.fcStep + 1) % 4 }

/-- `frame_step()`: the 7457-tick divider (R317). -/
def frameStep (u : Apu) : Apu :=
  if u.fcDiv + 1 = 7457 then frameSequence { u with fcDiv := 0 } else { u with fcDiv := u.fcDiv + 1 }

/-! ### Channels -/

/-- `pulse_step(ch)` (R311). -/
def pulseStep (ch : Pulse) : Pulse :=
  if ch.timer = 0 then { ch with timer := ch.timerLoad, pos := ch.pos + 1 } else { ch with timer := ch.timer - 1 }

/-- `pulse_out(ch)` (R311). -/
def pulseOut (ch : Pulse) : Int :=
  if ch.lengthValue = 0 ∨ ch.timerLoad < 8 then 0
  else if dutyHigh ch.duty ch.pos then ch.volume.toNat else -(ch.volume.toNat : Int)

/-- `tri_step()` (R313). -/
def triStep (ch : Triangle) : Triangle :=
  if ch.timer = 0 then
    { ch with
        timer := ch.timerLoad
        pos := if ch.lengthValue ≠ 0 ∧ ch.linearCounter ≠ 0 then ch.pos + 1 else ch.pos }
  else { ch with timer := ch.timer - 1 }

/-- `tri_out()`: not gated (R313). -/
def triOut (ch : Triangle) : Int := triLevel ch.pos - 7

/-- The LFSR after one clock (R315). -/
def lfsrNext (mode : Bool) (l : BitVec 15) : BitVec 15 :=
  (l >>> 1) ||| bitOf 15 (l.getLsbD 0 ^^ (if mode then l.getLsbD 6 else l.getLsbD 1)) <<< 14

/-- `noise_step()` (R315). -/
def noiseStep (ch : Noise) : Noise :=
  if ch.timer = 0 then { ch with timer := ch.timerLoad, lfsr := lfsrNext ch.mode ch.lfsr }
  else { ch with timer := ch.timer - 1 }

/-- `noise_out()`: not gated by the length counter (R315). -/
def noiseOut (ch : Noise) : Int := if ch.lfsr.getLsbD 0 then 0 else ch.volume.toNat

/-! ### Sampler and ring -/

/-- `clamp(s, -32768, 32767)` (R320). -/
def clamp16 (s : Int) : Int := max (-32768) (min s 32767)

/-- `mix()`: the signed 16-bit sample (R320). -/
def mix (u : Apu) : BitVec 16 :=
  BitVec.ofInt 16 (clamp16 (((pulseOut u.p1 + pulseOut u.p2) * Config.pulseScale + triOut u.tri * Config.triScale
    + noiseOut u.ns * Config.noiseScale) * Config.mixScale))

/-- Whether the ring is full: advancing `widx` would make it equal `ridx` (R324). -/
def Apu.ringFull (u : Apu) : Bool := decide (u.widx + 1 = u.ridx)

/-- `ring_push(s)`: a sample on a full buffer is dropped silently (R323, R324). -/
def ringPush (u : Apu) (s : BitVec 16) : Apu :=
  if u.ringFull then u else { u with ring := sparseSet 0 u.ring u.widx.toNat s, widx := u.widx + 1 }

/-- `get_audio_samples(max_len)`, the consumer: the samples removed, oldest first (R326). -/
def drainSamples : Nat → Apu → List (BitVec 16) × Apu
  | 0, u => ([], u)
  | n + 1, u =>
    if u.ridx = u.widx then ([], u)
    else
      let r := drainSamples n { u with ridx := u.ridx + 1 }
      (sparseGet 0 u.ring u.ridx.toNat :: r.1, r.2)

/-- `n` removals by the consumer, the samples handed over appended to `out` (R326, log 22). A whole call of
`get_audio_samples(n)` that falls between two pushes is this; one that runs while samples are pushed is several. -/
def consumerRemoves (n : Nat) (u : Apu) : Apu :=
  let r := drainSamples n u
  { r.2 with consumer := { r.2.consumer with out := r.2.consumer.out ++ r.1 } }

/-- The consumer's turn before a push: the head of its `turns` (R325: "at the granularity of one `ring_push` and one
sample removal"). -/
def consumerTurn (u : Apu) : Apu :=
  match u.consumer.turns with
  | [] => u
  | n :: rest => consumerRemoves n { u with consumer := { u.consumer with turns := rest } }

/-- `sample_step()`: the accumulator in hundredths of a tick; on emission the push, after the consumer's turn (R322,
R325). -/
def sampleStep (u : Apu) : Apu :=
  if u.acc + 100 ≥ 4058 then
    let u1 := consumerTurn { u with acc := u.acc + 100 - 4058 }
    ringPush u1 (mix u1)
  else { u with acc := u.acc + 100 }

/-! ### The tick -/

/-- The channel timers of one tick: the triangle every tick, pulse and noise every other (R310). -/
def channelStep (u : Apu) : Apu :=
  let u1 := { u with parity := !u.parity, tri := triStep u.tri }
  if u1.parity = Config.apuClockParity then
    { u1 with p1 := pulseStep u1.p1, p2 := pulseStep u1.p2, ns := noiseStep u1.ns }
  else u1

/-- `apu_tick()`, once per CPU cycle (R310). -/
def apuTick (u : Apu) : Apu := sampleStep (frameStep (channelStep u))

/-- The APU's write decode (R300 to R305, R307). `a` is $4000 to $4013, $4015 or $4017; $4010 to $4013 are
accepted and ignored. -/
def apuWrite (u : Apu) (a : Word) (b : Byte) : Apu :=
  if a ≤ 0x4003 then { u with p1 := pulseWrite u.p1 (a.setWidth 2) b }
  else if a ≤ 0x4007 then { u with p2 := pulseWrite u.p2 (a.setWidth 2) b }
  else if a ≤ 0x400B then { u with tri := triWrite u.tri (a.setWidth 2) b }
  else if a ≤ 0x400F then { u with ns := noiseWrite u.ns (a.setWidth 2) b }
  else if a = 0x4015 then enableWrite u b
  else if a = 0x4017 then frameWrite u b
  else u

end Sys2Proof.Machine
end

