-- ==== Sys2Proof/Machine/Flags.lean ====
section
/-! DEFINITION. The status register's bits and every flag computation, as functions on bytes: `p` is the status
before, `m` the operand (spec/10_state.md R13, R15; spec/41_arithmetic_logic.md; spec/42_shift_rotate.md). -/

namespace Sys2Proof.Machine

/-- Bit 0 of `P`, carry (R13). -/
def flagC : Nat := 0
/-- Bit 1 of `P`, zero (R13). -/
def flagZ : Nat := 1
/-- Bit 2 of `P`, interrupt disable (R13). -/
def flagI : Nat := 2
/-- Bit 3 of `P`, decimal (R13). -/
def flagD : Nat := 3
/-- Bit 4 of `P`, the B distinction of pushed copies (R13). -/
def flagB : Nat := 4
/-- Bit 5 of `P`, always 1 (R13). -/
def flagB5 : Nat := 5
/-- Bit 6 of `P`, overflow (R13). -/
def flagV : Nat := 6
/-- Bit 7 of `P`, negative (R13). -/
def flagN : Nat := 7

/-- `SetNZ(v)` (R7). -/
def setNZ (p v : Byte) : Byte := setBit (setBit p flagN (v.getLsbD 7)) flagZ (decide (v = 0))

/-- The status byte PHP and BRK push: `P | 0x30` (R13, R181, R192). -/
def pushedByInstr (p : Byte) : Byte := p ||| 0x30

/-- The status byte NMI service pushes: `(P | 0x20) & 0xEF` (R13, R222). -/
def pushedByNmi (p : Byte) : Byte := (p ||| 0x20) &&& 0xEF

/-- What PLP and RTI load from a pulled byte: `(b & 0xEF) | 0x20` (R183, R193). -/
def pulledStatus (b : Byte) : Byte := (b &&& 0xEF) ||| 0x20

/-- `A + m + C` as an unbounded integer, 0 to 511 (R120). -/
def adcSum (p a m : Byte) : Nat := a.toNat + m.toNat + (p.getLsbD flagC).toNat

/-- The 8-bit result of ADC: `sum & 0xFF` (R120). -/
def adcResult (p a m : Byte) : Byte := BitVec.ofNat 8 (adcSum p a m)

/-- V of ADC: `((A ^ sum) & (m ^ sum) & 0x80) != 0`, A before the add (R120). -/
def adcOverflow (p a m : Byte) : Bool :=
  decide ((a ^^^ adcResult p a m) &&& (m ^^^ adcResult p a m) &&& 0x80 ≠ 0)

/-- The status after ADC: C, V, N, Z (R120); D is not read. -/
def adcStatus (p a m : Byte) : Byte :=
  setNZ (setBit (setBit p flagC (decide (adcSum p a m > 0xFF))) flagV (adcOverflow p a m)) (adcResult p a m)

/-- The operand SBC adds: `m ^ 0xFF` (R121). -/
def sbcOperand (m : Byte) : Byte := m ^^^ 0xFF

/-- The status after a compare of `r` with `m`: C, Z, N (R125). -/
def cmpStatus (p r m : Byte) : Byte :=
  setBit (setBit (setBit p flagC (decide (m ≤ r))) flagZ (decide (r = m))) flagN ((r - m).getLsbD 7)

/-- The status after BIT: Z from `A & m`, N and V from bits 7 and 6 of `m` (R128). -/
def bitStatus (p a m : Byte) : Byte :=
  setBit (setBit (setBit p flagZ (decide (a &&& m = 0))) flagN (m.getLsbD 7)) flagV (m.getLsbD 6)

/-- A byte function of a read-modify-write: the new byte and the status it leaves, from the status and the old
byte (R75, R150 to R153). -/
structure Modified where
  byte   : Byte
  status : Byte
  deriving DecidableEq, Repr

/-- `f` of ASL: C is the old bit 7 (R150). -/
def aslF (p m : Byte) : Modified := { byte := m <<< 1, status := setBit p flagC (m.getLsbD 7) }

/-- `f` of LSR: C is the old bit 0 (R151). -/
def lsrF (p m : Byte) : Modified := { byte := m >>> 1, status := setBit p flagC (m.getLsbD 0) }

/-- `f` of ROL: the old C enters bit 0 (R152). -/
def rolF (p m : Byte) : Modified :=
  { byte := m <<< 1 ||| bitOf 8 (p.getLsbD flagC), status := setBit p flagC (m.getLsbD 7) }

/-- `f` of ROR: the old C enters bit 7 (R153). -/
def rorF (p m : Byte) : Modified :=
  { byte := m >>> 1 ||| bitOf 8 (p.getLsbD flagC) <<< 7, status := setBit p flagC (m.getLsbD 0) }

/-- `f` of INC: plus one mod 256, no flag (R129). -/
def incF (p m : Byte) : Modified := { byte := m + 1, status := p }

/-- `f` of DEC: minus one mod 256, no flag (R130). -/
def decF (p m : Byte) : Modified := { byte := m - 1, status := p }

end Sys2Proof.Machine
end

