-- ==== Sys2Proof/Machine/Pads.lean ====
section
/-! DEFINITION. The two controllers (spec/63_controllers_and_host.md R340 to R343). -/

namespace Sys2Proof.Machine

/-- `controller_strobe(b)`, the $4016 write: bit 0 sets the shared strobe, and a 1 latches the live buttons
into both shift registers (R341). -/
def padStrobe (u : Pads) (b : Byte) : Pads :=
  if b.getLsbD 0 then { u with strobe := true, shift0 := u.buttons0, shift1 := u.buttons1 }
  else { u with strobe := false }

/-- The shift register after a read with the strobe at 0: right by one, a 1 enters at bit 7 (R342). -/
def padShifted (sh : Byte) : Byte := (sh >>> 1) ||| 0x80

/-- `controller_read(i)`: bit 0 of the register, as a byte 0 or 1; while the strobe is 1 the register is
reloaded from the live buttons and not shifted (R342, R343). `second` selects controller 2. -/
def padRead (u : Pads) (second : Bool) : Byte × Pads :=
  if u.strobe then
    if second then (u.buttons1 &&& 1, { u with shift1 := u.buttons1 })
    else (u.buttons0 &&& 1, { u with shift0 := u.buttons0 })
  else if second then (u.shift1 &&& 1, { u with shift1 := padShifted u.shift1 })
  else (u.shift0 &&& 1, { u with shift0 := padShifted u.shift0 })

/-- `send_input(k, pressed)` on the live buttons (R340, R350, D61). -/
def padInput (u : Pads) (k : Nat) (pressed : Bool) : Pads :=
  match Config.inputMap k with
  | none => u
  | some (false, i) => { u with buttons0 := setBit u.buttons0 i pressed }
  | some (true, i) => { u with buttons1 := setBit u.buttons1 i pressed }

end Sys2Proof.Machine
end

