-- ==== Sys2Proof/Machine/Ppu.lean ====
section
/-! DEFINITION. The PPU's address space and its eight CPU ports (spec/61_ppu.md R251 to R261, R270 to R272).
Ports act at once, between two dots. -/

namespace Sys2Proof.Machine

/-- What the picture unit works on: its own state and the cartridge, which holds the pattern tables. -/
structure PpuSide where
  ppu  : Ppu
  cart : Mapper
  deriving DecidableEq, Repr

/-- `pal_index` on a 5-bit index: $10/$14/$18/$1C alias $00/$04/$08/$0C (R271). -/
def palIndex (i : BitVec 5) : BitVec 5 := if i &&& 0x13 = 0x10 then i &&& 0x0F else i

/-- The bank of 1024 nametable bytes that table `tbl` (0 to 3) lies in (R272). Four-screen accesses never
reach it: they go to the cartridge (R270). -/
def ntBank (mir : Mirroring) (tbl : BitVec 2) : Bool :=
  match mir with
  | .horizontal => tbl.getLsbD 1
  | .vertical => tbl.getLsbD 0
  | .singleScreenA => false
  | .singleScreenB => true
  | .fourScreen => false

/-- `nt_index(a)`: the VRAM byte of a nametable address (R272). -/
def ntIndex (mir : Mirroring) (a : BitVec 14) : BitVec 11 :=
  bitOf 11 (ntBank mir ((a >>> 10).setWidth 2)) <<< 10 ||| (a &&& 0x03FF).setWidth 11

/-- `ppu_mem_read(a)` (R270). -/
def ppuMemRead (g : PpuSide) (a : BitVec 14) : Byte × PpuSide :=
  if a < 0x2000 then
    ((g.cart.ppuRead a).1, { g with cart := (g.cart.ppuRead a).2 })
  else if a < 0x3F00 then
    match g.cart.mirroring with
    | .fourScreen =>
      ((g.cart.ppuRead (0x2000 ||| (a &&& 0x0FFF))).1,
        { g with cart := (g.cart.ppuRead (0x2000 ||| (a &&& 0x0FFF))).2 })
    | mir => (g.ppu.vram.read (ntIndex mir a).toNat, g)
  else (g.ppu.pal.read (palIndex (a.setWidth 5)).toNat, g)

/-- `ppu_mem_write(a, b)`: the same decode (R270). -/
def ppuMemWrite (g : PpuSide) (a : BitVec 14) (b : Byte) : PpuSide :=
  if a < 0x2000 then { g with cart := g.cart.ppuWrite a b }
  else if a < 0x3F00 then
    match g.cart.mirroring with
    | .fourScreen => { g with cart := g.cart.ppuWrite (0x2000 ||| (a &&& 0x0FFF)) b }
    | mir => { g with ppu := { g.ppu with vram := g.ppu.vram.write (ntIndex mir a).toNat b } }
  else { g with ppu := { g.ppu with pal := g.ppu.pal.write (palIndex (a.setWidth 5)).toNat b } }

/-- `ctrl_write(b)`: PPUCTRL, the nametable bits into `t`, and the NMI retrigger on a rising edge of
NMI-enable while `vblank` is 1 (R252, R253, C3). -/
def ctrlWrite (u : Ppu) (b : Byte) : Ppu :=
  { u with
      ctrl := b
      t := (u.t &&& 0x73FF) ||| ((b &&& 3).setWidth 15 <<< 10)
      pendingNmi := u.pendingNmi || (!u.ctrl.getLsbD 7 && b.getLsbD 7 && u.vblank) }

/-- The byte a read of PPUSTATUS returns: the three flags in bits 7, 6, 5, the rest 0 (R255). -/
def statusByte (u : Ppu) : Byte :=
  bitOf 8 u.vblank <<< 7 ||| bitOf 8 u.sprite0Hit <<< 6 ||| bitOf 8 u.spriteOverflow <<< 5

/-- `status_read()`: returns the flags and clears `vblank` and `w` (R255). -/
def statusRead (u : Ppu) : Byte × Ppu := (statusByte u, { u with vblank := false, w := false })

/-- The byte OAMADDR points at (R256). -/
def oamRead (u : Ppu) : Byte := u.oam.read u.oamAddr.toNat

/-- A write to OAMDATA stores at OAMADDR and increments it mod 256 (R251, R256). -/
def oamWrite (u : Ppu) (b : Byte) : Ppu :=
  { u with oam := u.oam.write u.oamAddr.toNat b, oamAddr := u.oamAddr + 1 }

/-- `scroll_write(b)`: PPUSCROLL, first write coarse X and fine X, second fine Y and coarse Y (R257). -/
def scrollWrite (u : Ppu) (b : Byte) : Ppu :=
  if u.w then
    { u with
        t := (u.t &&& 0x0C1F) ||| ((b &&& 7).setWidth 15 <<< 12) ||| ((b >>> 3).setWidth 15 <<< 5)
        w := false }
  else { u with t := (u.t &&& 0x7FE0) ||| (b >>> 3).setWidth 15, x := b.setWidth 3, w := true }

/-- `addr_write(b)`: PPUADDR, first write the high six bits of `t` and clears its bit 14, second the low
byte and copies `t` to `v` (R258). -/
def addrWrite (u : Ppu) (b : Byte) : Ppu :=
  if u.w then
    { u with
        t := (u.t &&& 0x7F00) ||| b.setWidth 15
        v := (u.t &&& 0x7F00) ||| b.setWidth 15
        w := false }
  else { u with t := (u.t &&& 0x00FF) ||| ((b &&& 0x3F).setWidth 15 <<< 8), w := true }

/-- `v` after a PPUDATA access: 1 or 32 further, mod $8000 (R252, R260, R261). -/
def vAdvanced (u : Ppu) : BitVec 15 := u.v + (if u.ctrl.getLsbD 2 then 32 else 1)

/-- `v` used as a PPU address: `v & 0x3FFF` (R259). -/
def vAddr (u : Ppu) : BitVec 14 := u.v.setWidth 14

/-- The read half of `data_read()`: the byte returned, with the one-stage buffer replaced (R260). -/
def dataFetch (g : PpuSide) : Byte × PpuSide :=
  let a := vAddr g.ppu
  if a < 0x3F00 then
    let r := ppuMemRead g a
    (g.ppu.readBuffer, { r.2 with ppu := { r.2.ppu with readBuffer := r.1 } })
  else
    let r := ppuMemRead g a
    let n := ppuMemRead r.2 (a - 0x1000)
    (r.1, { n.2 with ppu := { n.2.ppu with readBuffer := n.1 } })

/-- `data_read()`: PPUDATA read (R260). -/
def dataRead (g : PpuSide) : Byte × PpuSide :=
  let r := dataFetch g
  (r.1, { r.2 with ppu := { r.2.ppu with v := vAdvanced r.2.ppu } })

/-- `data_write(b)`: PPUDATA write, not buffered (R261). -/
def dataWrite (g : PpuSide) (b : Byte) : PpuSide :=
  let r := ppuMemWrite g (vAddr g.ppu) b
  { r with ppu := { r.ppu with v := vAdvanced r.ppu } }

/-- Whether port `p` has something to read (R251). -/
def ppuPortReadable (p : BitVec 3) : Bool := p = 2 || p = 4 || p = 7

/-- `ppu_port_read(p)`: a write-only port returns 0 and changes nothing (R251). -/
def ppuPortRead (g : PpuSide) (p : BitVec 3) : Byte × PpuSide :=
  if p = 2 then ((statusRead g.ppu).1, { g with ppu := (statusRead g.ppu).2 })
  else if p = 4 then (oamRead g.ppu, g)
  else if p = 7 then dataRead g
  else (0, g)

/-- `ppu_port_write(p, b)` (R251). -/
def ppuPortWrite (g : PpuSide) (p : BitVec 3) (b : Byte) : PpuSide :=
  if p = 0 then { g with ppu := ctrlWrite g.ppu b }
  else if p = 1 then { g with ppu := { g.ppu with mask := b } }
  else if p = 2 then g
  else if p = 3 then { g with ppu := { g.ppu with oamAddr := b } }
  else if p = 4 then { g with ppu := oamWrite g.ppu b }
  else if p = 5 then { g with ppu := scrollWrite g.ppu b }
  else if p = 6 then { g with ppu := addrWrite g.ppu b }
  else dataWrite g b

end Sys2Proof.Machine
end

