-- ==== Sys2Proof/Machine/Render.lean ====
section
/-! DEFINITION. The PPU's dot machine and its rendering pipelines (spec/61_ppu.md R262 to R268, R273 to
R285): one dot acts on the current position, then advances it. -/

namespace Sys2Proof.Machine

/-- "Rendering enabled": show-bg or show-sprites (R254). -/
def Ppu.rendering (u : Ppu) : Bool := u.mask.getLsbD 3 || u.mask.getLsbD 4

/-- `vblank_onset()` (R264). -/
def vblankOnset (u : Ppu) : Ppu :=
  { u with vblank := true, pendingNmi := u.pendingNmi || u.ctrl.getLsbD 7 }

/-- The events of a dot that happen whether or not rendering is enabled (R262, R264 to R266). -/
def timedEvents (u : Ppu) : Ppu :=
  let u1 := if u.scanline = 241 ∧ u.dot = 1 then vblankOnset u else u
  let u2 :=
    if u.scanline = -1 ∧ u.dot = 1 then { u1 with vblank := false, sprite0Hit := false, spriteOverflow := false }
    else u1
  if u.scanline = Config.frameReadyScanline ∧ u.dot = Config.frameReadyDot then { u2 with frameReady := true }
  else u2

/-! ### Background pipeline -/

/-- `coarse_x_increment()` (R274). -/
def coarseXIncrement (v : BitVec 15) : BitVec 15 :=
  if v &&& 0x001F = 31 then (v &&& 0x7FE0) ^^^ 0x0400 else v + 1

/-- `y_increment()` (R275). -/
def yIncrement (v : BitVec 15) : BitVec 15 :=
  if v &&& 0x7000 ≠ 0x7000 then v + 0x1000
  else
    let v0 := v &&& 0x0FFF
    let cy := (v0 >>> 5) &&& 31
    if cy = 29 then ((v0 ^^^ 0x0800) &&& 0x7C1F)
    else if cy = 31 then v0 &&& 0x7C1F
    else (v0 &&& 0x7C1F) ||| ((cy + 1) <<< 5)

/-- `copy_horizontal()`: coarse X and nametable bit 10 (R276). -/
def copyHorizontal (u : Ppu) : Ppu := { u with v := (u.v &&& 0x7BE0) ||| (u.t &&& 0x041F) }

/-- `copy_vertical()`: fine Y, nametable bit 11 and coarse Y (R277). -/
def copyVertical (u : Ppu) : Ppu := { u with v := (u.v &&& 0x041F) ||| (u.t &&& 0x7BE0) }

/-- `bg_shift()` (R278). -/
def bgShift (u : Ppu) : Ppu :=
  { u with
      bgPatLo := u.bgPatLo <<< 1
      bgPatHi := u.bgPatHi <<< 1
      bgAttrLo := (u.bgAttrLo <<< 1) ||| bitOf 8 u.atLatchLo
      bgAttrHi := (u.bgAttrHi <<< 1) ||| bitOf 8 u.atLatchHi }

/-- `bg_reload()` (R278). -/
def bgReload (u : Ppu) : Ppu :=
  { u with
      bgPatLo := (u.bgPatLo &&& 0xFF00) ||| zext16 u.patLo
      bgPatHi := (u.bgPatHi &&& 0xFF00) ||| zext16 u.patHi
      atLatchLo := u.atBits.getLsbD 0
      atLatchHi := u.atBits.getLsbD 1 }

/-- The nametable byte's address (R273). -/
def ntFetchAddr (u : Ppu) : BitVec 14 := 0x2000 ||| (vAddr u &&& 0x0FFF)

/-- The attribute byte's address (R273). -/
def atFetchAddr (u : Ppu) : BitVec 14 :=
  0x23C0 ||| (vAddr u &&& 0x0C00) ||| ((vAddr u >>> 4) &&& 0x38) ||| ((vAddr u >>> 2) &&& 0x07)

/-- Which two bits of the attribute byte belong to the tile (R273). -/
def atShift (u : Ppu) : Nat := (((u.v >>> 4) &&& 4) ||| (u.v &&& 2)).toNat

/-- The address of the tile's low pattern byte (R273); the high byte is at the same address `| 8`. -/
def patFetchAddr (u : Ppu) : BitVec 14 :=
  (bitOf 14 (u.ctrl.getLsbD 4) <<< 12) ||| (u.ntByte.setWidth 14 <<< 4) ||| (u.v >>> 12).setWidth 14

/-- `bg_fetch_step(ph)`: the memory read of each two-dot fetch at its second dot (R273). -/
def bgFetchStep (g : PpuSide) (ph : Nat) : PpuSide :=
  if ph = 1 then
    let r := ppuMemRead g (ntFetchAddr g.ppu)
    { r.2 with ppu := { r.2.ppu with ntByte := r.1 } }
  else if ph = 3 then
    let r := ppuMemRead g (atFetchAddr g.ppu)
    { r.2 with ppu := { r.2.ppu with atBits := (r.1 >>> atShift g.ppu).setWidth 2 } }
  else if ph = 5 then
    let r := ppuMemRead g (patFetchAddr g.ppu)
    { r.2 with ppu := { r.2.ppu with patLo := r.1 } }
  else if ph = 7 then
    let r := ppuMemRead g (patFetchAddr g.ppu ||| 8)
    let u := bgReload { r.2.ppu with patHi := r.1 }
    { r.2 with ppu := { u with v := coarseXIncrement u.v } }
  else g

/-- `bg_pixel(px)`: colour 0 to 3 and palette 0 to 3 (R279). -/
def bgPixel (u : Ppu) (px : Nat) : BitVec 2 × BitVec 2 :=
  if !u.mask.getLsbD 3 || (decide (px < 8) && !u.mask.getLsbD 1) then (0, 0)
  else
    (bitOf 2 (u.bgPatLo.getLsbD (15 - u.x.toNat)) ||| bitOf 2 (u.bgPatHi.getLsbD (15 - u.x.toNat)) <<< 1,
      bitOf 2 (u.bgAttrLo.getLsbD (7 - u.x.toNat)) ||| bitOf 2 (u.bgAttrHi.getLsbD (7 - u.x.toNat)) <<< 1)

/-! ### Sprite pipeline -/

/-- Sprite height: 8 or 16 rows (R252, R280). -/
def spriteHeight (u : Ppu) : Nat := if u.ctrl.getLsbD 5 then 16 else 8

/-- The OAM entry of sprite `n` (R19, R280). -/
def oamEntry (oam : Memory) (n : Nat) : SecEntry :=
  { y := oam.read (4 * n), tile := oam.read (4 * n + 1), attr := oam.read (4 * n + 2),
    x := oam.read (4 * n + 3), id := BitVec.ofNat 6 n }

/-- Whether the y range of an entry covers scanline `s`: `0 <= s - y < h` (R280). -/
def coversLine (s : Int) (h : Nat) (e : SecEntry) : Bool :=
  decide ((e.y.toNat : Int) ≤ s) && decide (s < (e.y.toNat : Int) + h)

/-- The 64 sprites in OAM order whose y range covers scanline `s` (R280). -/
def spritesOnLine (u : Ppu) (s : Int) : List SecEntry :=
  ((List.range 64).map (oamEntry u.oam)).filter (coversLine s (spriteHeight u))

/-- `sprite_evaluate()`: the first eight go to secondary OAM, a ninth sets the overflow flag; on the
pre-render line secondary OAM is only emptied (R280). -/
def spriteEvaluate (u : Ppu) : Ppu :=
  if u.scanline = -1 then { u with sec := [] }
  else
    { u with
        sec := (spritesOnLine u u.scanline).take 8
        spriteOverflow := u.spriteOverflow || decide (8 < (spritesOnLine u u.scanline).length) }

/-- The row of the sprite's pattern on the current scanline, masked to the height and flipped by attribute
bit 7 (R281, log 29). -/
def spriteRow (u : Ppu) (e : SecEntry) : Byte :=
  let m : Byte := if u.ctrl.getLsbD 5 then 15 else 7
  let row := BitVec.ofInt 8 (u.scanline - e.y.toNat) &&& m
  if e.attr.getLsbD 7 then m - row else row

/-- The address of the sprite's low pattern byte, 8x8 or 8x16 (R281). -/
def spriteFetchAddr (u : Ppu) (e : SecEntry) : BitVec 14 :=
  let row := spriteRow u e
  if u.ctrl.getLsbD 5 then
    (bitOf 14 (e.tile.getLsbD 0) <<< 12) ||| (((e.tile &&& 0xFE) ||| (row >>> 3)).setWidth 14 <<< 4)
      ||| (row &&& 7).setWidth 14
  else (bitOf 14 (u.ctrl.getLsbD 3) <<< 12) ||| (e.tile.setWidth 14 <<< 4) ||| row.setWidth 14

/-- Flip-h reverses the bit order of a pattern byte (R281). -/
def flipH (e : SecEntry) (b : Byte) : Byte := if e.attr.getLsbD 6 then rev8 b else b

/-- `sprite_fetch(i)`: unit `i` loaded whole, or made invalid when the slot is empty (R281). -/
def spriteFetch (g : PpuSide) (i : Nat) : PpuSide :=
  match g.ppu.sec[i]? with
  | none =>
    { g with ppu := { g.ppu with spr := g.ppu.spr.modify i fun un => { un with valid := false } } }
  | some e =>
    let a := spriteFetchAddr g.ppu e
    let lo := ppuMemRead g a
    let hi := ppuMemRead lo.2 (a ||| 8)
    let un : SprUnit :=
      { lo := flipH e lo.1, hi := flipH e hi.1, attr := e.attr, xcnt := e.x, id := e.id, valid := true }
    { hi.2 with ppu := { hi.2.ppu with spr := hi.2.ppu.spr.set i un } }

/-- What the sprite pipeline offers at a pixel: colour, palette, priority bit, whether it is sprite 0 (R282). -/
structure SpritePixel where
  colour   : BitVec 2
  palette  : BitVec 2
  priority : Bool
  isZero   : Bool
  deriving DecidableEq, Repr

/-- The colour a unit shows now (R282). -/
def SprUnit.colour (un : SprUnit) : BitVec 2 :=
  bitOf 2 (un.lo.getLsbD 7) ||| bitOf 2 (un.hi.getLsbD 7) <<< 1

/-- The first unit, in unit order, that is active with an opaque pixel (R282, R283). -/
def firstOpaque : List SprUnit → Option SpritePixel
  | [] => none
  | un :: us =>
    if un.valid ∧ un.xcnt = 0 ∧ un.colour ≠ 0 then
      some { colour := un.colour, palette := un.attr.setWidth 2, priority := un.attr.getLsbD 5,
             isZero := decide (un.id = 0) }
    else firstOpaque us

/-- `sprite_pixel(px)` (R282). -/
def spritePixel (u : Ppu) (px : Nat) : Option SpritePixel :=
  if !u.mask.getLsbD 4 || (decide (px < 8) && !u.mask.getLsbD 2) then none else firstOpaque u.spr

/-- One unit after a pixel: its x-counter runs down, then its pattern shifts (R282). -/
def SprUnit.step (un : SprUnit) : SprUnit :=
  if un.valid then
    if un.xcnt = 0 then { un with lo := un.lo <<< 1, hi := un.hi <<< 1 } else { un with xcnt := un.xcnt - 1 }
  else un

/-- `sprite_units_step()` (R282). -/
def spriteUnitsStep (u : Ppu) : Ppu := { u with spr := u.spr.map SprUnit.step }

/-! ### The pixel -/

/-- A 5-bit palette index from a palette number and a colour; `sprite` selects the sprite half (R271, R283). -/
def paletteIdx (sprite : Bool) (q c : BitVec 2) : BitVec 5 :=
  (bitOf 5 sprite <<< 4) ||| (q.setWidth 5 <<< 2) ||| c.setWidth 5

/-- The palette index the multiplexer picks (R283). -/
def muxIndex (bg : BitVec 2 × BitVec 2) (s : Option SpritePixel) : BitVec 5 :=
  match s with
  | none => if bg.1 = 0 then 0 else paletteIdx false bg.2 bg.1
  | some o =>
    if bg.1 = 0 then paletteIdx true o.palette o.colour
    else if o.priority then paletteIdx false bg.2 bg.1
    else paletteIdx true o.palette o.colour

/-- Whether pixel `px` sets the sprite-0-hit flag: sprite 0 and the background both opaque, column 1 to 254
(R284). -/
def spriteZeroHits (bg : BitVec 2 × BitVec 2) (s : Option SpritePixel) (px : Nat) : Bool :=
  match s with
  | none => false
  | some o => o.isZero && decide (bg.1 ≠ 0) && decide (1 ≤ px) && decide (px ≤ 254)

/-- `colour(idx)` before the palette table: the 6-bit colour index, ANDed with $30 in greyscale (R285). -/
def colourIndex (u : Ppu) (idx : BitVec 5) : BitVec 6 :=
  let c : BitVec 6 := (u.pal.read (palIndex idx).toNat).setWidth 6
  if u.mask.getLsbD 0 then c &&& 0x30 else c

/-- `emit_pixel(px)` on the current scanline (R283 to R285). -/
def emitPixel (u : Ppu) (px : Nat) : Ppu :=
  let bg := bgPixel u px
  let s := spritePixel u px
  spriteUnitsStep
    { u with
        sprite0Hit := u.sprite0Hit || spriteZeroHits bg s px
        fb := sparseSet none u.fb (256 * u.scanline.toNat + px) (some (colourIndex u (muxIndex bg s))) }

/-- The 32-bit word of a framebuffer pixel: `PALETTE[c]` for a pixel emitted with colour index `c`, 0 for one
never emitted (R23, R285, R354, log 13). -/
def Ppu.fbWord (u : Ppu) (row col : Nat) : BitVec 32 :=
  match sparseGet none u.fb (256 * row + col) with
  | none => 0
  | some c => Config.palette c

/-! ### The dot -/

/-- The pixel of a dot, on scanlines 0 to 239, dots 1 to 256 (R262). -/
def dotPixel (g : PpuSide) : PpuSide :=
  if 0 ≤ g.ppu.scanline ∧ 1 ≤ g.ppu.dot ∧ g.ppu.dot ≤ 256 then
    { g with ppu := emitPixel g.ppu (g.ppu.dot - 1) }
  else g

/-- Shift and fetch of a dot, dots 1 to 256 and 321 to 336 (R262). -/
def dotFetch (g : PpuSide) : PpuSide :=
  if (1 ≤ g.ppu.dot ∧ g.ppu.dot ≤ 256) ∨ (321 ≤ g.ppu.dot ∧ g.ppu.dot ≤ 336) then
    bgFetchStep { g with ppu := bgShift g.ppu } ((g.ppu.dot - 1) % 8)
  else g

/-- The scroll updates and the sprite evaluation of a dot (R262, R275 to R277, R280). -/
def dotScroll (u : Ppu) : Ppu :=
  let u1 := if u.dot = 256 then { u with v := yIncrement u.v } else u
  let u2 := if u.dot = 257 then spriteEvaluate (copyHorizontal u1) else u1
  if u.scanline = -1 ∧ 280 ≤ u.dot ∧ u.dot ≤ 304 then copyVertical u2 else u2

/-- The sprite fetch of a dot, the last dot of each slot (R262, R281). -/
def dotSprite (g : PpuSide) : PpuSide :=
  if 264 ≤ g.ppu.dot ∧ g.ppu.dot ≤ 320 ∧ g.ppu.dot % 8 = 0 then spriteFetch g ((g.ppu.dot - 264) / 8) else g

/-- The body of a dot on scanlines -1 to 239 with rendering enabled (R262). -/
def renderDot (g : PpuSide) : PpuSide :=
  let f := dotFetch (dotPixel g)
  dotSprite { f with ppu := dotScroll f.ppu }

/-- `advance(re)`: the next dot, with the dot skipped on the pre-render line of odd frames (R263). -/
def advanceDot (re : Bool) (u : Ppu) : Ppu :=
  let d := if u.scanline = -1 ∧ u.dot = 339 ∧ u.oddFrame = true ∧ re = true then 341 else u.dot + 1
  if d > 340 then
    if u.scanline + 1 > 260 then { u with dot := 0, scanline := -1, oddFrame := !u.oddFrame }
    else { u with dot := 0, scanline := u.scanline + 1 }
  else { u with dot := d }

/-- `ppu_tick()`: one dot; "rendering enabled" is sampled at its start (R262). -/
def ppuTick (g : PpuSide) : PpuSide :=
  let g1 : PpuSide := { g with ppu := timedEvents g.ppu }
  let g2 :=
    if g.ppu.rendering = true ∧ -1 ≤ g.ppu.scanline ∧ g.ppu.scanline ≤ 239 then renderDot g1 else g1
  { g2 with ppu := advanceDot g.ppu.rendering g2.ppu }

end Sys2Proof.Machine
end

