-- ==== Sys2Proof/Machine/Ops.lean ====
section
/-! DEFINITION. The named operations every instruction is made of: one CPU cycle, the bus decode, bus cycles,
OAM DMA, the stack, taking an exception and returning from one (spec/20_memory.md R30 to R44,
spec/10_state.md R14, spec/60_exceptions.md R222, R227). -/

namespace Sys2Proof.Machine

/-! ### The address map -/

/-- The targets of the CPU address map (R31). -/
inductive Region where
  | ram
  | ppuPort
  | apuChannel
  | dmaPort
  | apuStatus
  | pad1
  | pad2
  | unused
  | cartridge
  deriving DecidableEq, Repr

/-- The decode of a CPU address (R31, R36, R37). -/
def regionOf (a : Word) : Region :=
  if a ≤ 0x1FFF then .ram
  else if a ≤ 0x3FFF then .ppuPort
  else if a ≤ 0x4013 then .apuChannel
  else if a = 0x4014 then .dmaPort
  else if a = 0x4015 then .apuStatus
  else if a = 0x4016 then .pad1
  else if a = 0x4017 then .pad2
  else if a ≤ 0x5FFF then .unused
  else .cartridge

/-- Work RAM is mirrored every 2 KiB: `addr & 0x07FF` (R31, R38). -/
def ramIndex (a : Word) : Nat := (a.setWidth 11).toNat

/-- PPU ports are mirrored every 8 bytes: `addr & 7` (R31, R39). -/
def ppuPortOf (a : Word) : BitVec 3 := a.setWidth 3

/-! ### One cycle -/

/-- The picture unit and the cartridge of a state. -/
def State.ppuSide (s : State) : PpuSide := { ppu := s.ppu, cart := s.cart }

/-- A state with its picture unit and cartridge replaced. -/
def State.withPpuSide (s : State) (g : PpuSide) : State := { s with ppu := g.ppu, cart := g.cart }

/-- `Tick()`: three dots, one APU tick, the cycle counter (R30, R33). -/
def State.tick (s : State) : State :=
  let g := ppuTick (ppuTick (ppuTick s.ppuSide))
  { s with ppu := g.ppu, cart := g.cart, apu := apuTick s.apu, cycle := Config.nextCycle s.cycle }

/-- `n` internal cycles (R33). -/
def State.ticks : Nat → State → State
  | 0, s => s
  | n + 1, s => State.ticks n s.tick

/-! ### The bus -/

/-- `Log(event)` (R352). -/
def State.logged (s : State) (e : LogEvent) : State := { s with log := e :: s.log }

/-- `BusRead(addr)`: the decode with the device's read side effects, no clocking (R36, R40, R251). -/
def State.busRead (s : State) (a : Word) : Byte × State :=
  match regionOf a with
  | .ram => (s.ram.read (ramIndex a), s)
  | .ppuPort =>
    let r := ppuPortRead s.ppuSide (ppuPortOf a)
    (r.1,
      if ppuPortReadable (ppuPortOf a) then s.withPpuSide r.2
      else s.logged (.illegalRead (0x2000 ||| zext16 ((ppuPortOf a).setWidth 8))))
  | .apuStatus => (apuStatusRead s.apu, s)
  | .pad1 => ((padRead s.pads false).1, { s with pads := (padRead s.pads false).2 })
  | .pad2 => ((padRead s.pads true).1, { s with pads := (padRead s.pads true).2 })
  | .apuChannel => (0, s.logged (.illegalRead a))
  | .dmaPort => (0, s.logged (.illegalRead a))
  | .unused => (0, s.logged (.illegalRead a))
  | .cartridge => ((s.cart.cpuRead a).1, { s with cart := (s.cart.cpuRead a).2 })

/-- `BusWrite(addr, v)` for every address but the OAM DMA port, whose arm here does nothing (R37). -/
def State.busWriteDirect (s : State) (a : Word) (v : Byte) : State :=
  match regionOf a with
  | .ram => { s with ram := s.ram.write (ramIndex a) v }
  | .ppuPort => s.withPpuSide (ppuPortWrite s.ppuSide (ppuPortOf a) v)
  | .apuChannel => { s with apu := apuWrite s.apu a v }
  | .dmaPort => s
  | .apuStatus => { s with apu := apuWrite s.apu a v }
  | .pad1 => { s with pads := padStrobe s.pads v }
  | .pad2 => { s with apu := apuWrite s.apu a v }
  | .unused => s
  | .cartridge => { s with cart := s.cart.cpuWrite a v }

/-- `Read(addr)`, one read cycle: the tick comes first (R34, `TICK_ORDER`). -/
def State.read (s : State) (a : Word) : Byte × State :=
  match Config.tickOrder with
  | .tickFirst => s.tick.busRead a
  | .accessFirst => ((s.busRead a).1, (s.busRead a).2.tick)

/-- One write cycle to an address other than the OAM DMA port (R35, `TICK_ORDER`). -/
def State.writeDirect (s : State) (a : Word) (v : Byte) : State :=
  match Config.tickOrder with
  | .tickFirst => s.tick.busWriteDirect a v
  | .accessFirst => (s.busWriteDirect a v).tick

/-- The address of byte `i` of page `page`: `(page << 8) | i` (R44). -/
def pageAddr (page : Byte) (i : Nat) : Word := wordOf (BitVec.ofNat 8 i) page

/-- `n` bytes of an OAM DMA, from byte `i` of the page on: a read cycle and a write cycle to OAMDATA each (R44). -/
def dmaBytes (page : Byte) : Nat → Nat → State → State
  | 0, _, s => s
  | n + 1, i, s =>
    let b := s.read (pageAddr page i)
    dmaBytes page n (i + 1) (b.2.writeDirect 0x2004 b.1)

/-- Whether the DMA takes its alignment cycle (R44, `DMA_PARITY`). -/
def dmaAligns (s : State) : Bool := decide (s.cycle % 2 = 1) == Config.dmaExtraWhenOdd

/-- `OamDma(page)`: it runs to completion inside the bus write that starts it (R44). -/
def State.oamDma (s : State) (page : Byte) : State :=
  let waited := s.tick
  dmaBytes page 256 0 (if dmaAligns s then waited.tick else waited)

/-- `BusWrite(addr, v)` (R37): a write to $4014 starts an OAM DMA. -/
def State.busWrite (s : State) (a : Word) (v : Byte) : State :=
  if regionOf a = .dmaPort then s.oamDma v else s.busWriteDirect a v

/-- `Write(addr, v)`, one write cycle (R35, `TICK_ORDER`). -/
def State.write (s : State) (a : Word) (v : Byte) : State :=
  match Config.tickOrder with
  | .tickFirst => s.tick.busWrite a v
  | .accessFirst => (s.busWrite a v).tick

/-- `MemRead(addr, 2)`: two read cycles, the low byte first (R7, R42). -/
def State.readWord (s : State) (a : Word) : Word × State :=
  let lo := s.read a
  let hi := lo.2.read (a + 1)
  (wordOf lo.1 hi.1, hi.2)

/-! ### The stack -/

/-- The stack address of a stack pointer: `0x0100 | SP` (R12, R14). -/
def stackAddr (sp : Byte) : Word := 0x0100 ||| zext16 sp

/-- `Push(v)` (R14). -/
def State.push (s : State) (v : Byte) : State :=
  let w := s.write (stackAddr s.sp) v
  { w with sp := w.sp - 1 }

/-- `Pull()` (R14). -/
def State.pull (s : State) : Byte × State :=
  let u : State := { s with sp := s.sp + 1 }
  u.read (stackAddr u.sp)

/-- A word pushed, high byte first, so that it lies at the higher address (R42). -/
def State.pushWord (s : State) (w : Word) : State := (s.push (hiByte w)).push (loByte w)

/-- A word pulled, low byte first (R163, R193). -/
def State.pullWord (s : State) : Word × State :=
  let lo := s.pull
  let hi := lo.2.pull
  (wordOf lo.1 hi.1, hi.2)

/-! ### Taking an exception and returning from one -/

/-- The NMI vector (R32). -/
def nmiVector : Word := 0xFFFA
/-- The reset vector (R32). -/
def resetVector : Word := 0xFFFC
/-- The BRK and IRQ vector (R32). -/
def brkVector : Word := 0xFFFE

/-- TAKING AN EXCEPTION (R227): three bytes pushed, the return address high then low, then the status copy; `I`
set after the push; `PC` from the vector. NMI service (R222) and BRK (R192) are this after their internal
cycles. -/
def State.enterVector (s : State) (ret : Word) (status : Byte) (vector : Word) : State :=
  let pushed := (s.pushWord ret).push status
  let masked : State := { pushed with p := setBit pushed.p flagI true }
  let target := masked.readWord vector
  { target.2 with pc := target.1 }

/-- RETURNING FROM ONE (R193, R228): status pulled with bit 4 forced 0 and bit 5 forced 1, then `PC`, exactly. -/
def State.returnFromException (s : State) : State :=
  let b := s.pull
  let restored : State := { b.2 with p := pulledStatus b.1 }
  let target := restored.pullWord
  { target.2 with pc := target.1 }

/-- `NMI_service()` (R222): two internal cycles, then entry through $FFFA/$FFFB with bit 4 of the pushed status
0. The caller has cleared `pending_nmi` (R220). -/
def State.nmiService (s : State) : State :=
  let t := s.tick.tick
  t.enterVector t.pc (pushedByNmi t.p) nmiVector

/-! ### The program counter -/

/-- The end of a non-transfer instruction of `len` bytes: `PC <- (pc0 + len) mod 65536` (R11). -/
def State.advance (s : State) (len : Nat) : State := { s with pc := s.pc + BitVec.ofNat 16 len }

/-! ### Reading and placing a byte without a bus cycle

For statements and for placing a program: plain storage only, that is work RAM and the memories of `FLAT32`. -/

/-- The byte an address holds, where the address is plain storage; `none` at a device port and in a cartridge
other than `FLAT32`. No cycle passes and nothing changes. -/
def State.byteAt (s : State) (a : Word) : Option Byte :=
  match regionOf a, s.cart with
  | .ram, _ => some (s.ram.read (ramIndex a))
  | .cartridge, .flat32 f => some (((Mapper.flat32 f).cpuRead a).1)
  | _, _ => none

/-- A byte placed in plain storage from outside the machine, program memory included; no change elsewhere. -/
def State.place (s : State) (a : Word) (v : Byte) : State :=
  match regionOf a, s.cart with
  | .ram, _ => { s with ram := s.ram.write (ramIndex a) v }
  | .cartridge, .flat32 f =>
    if a.msb then { s with cart := .flat32 { f with prg := f.prg.write (prgIndex a) v } }
    else { s with cart := .flat32 { f with wram := f.wram.write (wramIndex a) v } }
  | _, _ => s

end Sys2Proof.Machine
end

