-- ==== Sys2Proof/Machine/Operands.lean ====
section
/-! DEFINITION. The addressing modes and the three access patterns (spec/30_encoding.md R62 to R75). An
instruction's operand bytes have been fetched when its meaning runs, so a helper makes the cycles that follow
them; `pc` still holds `pc0` (log 26). -/

namespace Sys2Proof.Machine

/-- A memory operand: the mode with its operand bytes (R64 to R72). -/
inductive Operand where
  | imm (v : Byte)
  | zp (b : Byte)
  | zpx (b : Byte)
  | zpy (b : Byte)
  | abs (w : Word)
  | abx (w : Word)
  | aby (w : Word)
  | izx (b : Byte)
  | izy (b : Byte)
  deriving DecidableEq, Repr

/-- How an instruction uses its address: one that only reads, or a store or read-modify-write (R69, R72). -/
inductive Use where
  | readType
  | writeType
  deriving DecidableEq, Repr

/-- The length in bytes of an instruction with this operand (R60). -/
def Operand.len (o : Operand) : Nat :=
  match o with
  | .imm _ | .zp _ | .zpx _ | .zpy _ | .izx _ | .izy _ => 2
  | .abs _ | .abx _ | .aby _ => 3

/-- `cross`: the index carries out of the low byte of the base (R69, R72, D19). -/
def pageCross (base : Word) (i : Byte) : Bool := decide ((loByte base).toNat + i.toNat > 0xFF)

/-- The indexed address, mod 65536, with its internal cycle: on a page cross when reading, always when writing
(R69, R70, R72). -/
def indexed (u : Use) (base : Word) (i : Byte) (s : State) : Word × State :=
  (base + zext16 i, if u = .writeType ∨ pageCross base i = true then s.tick else s)

/-- The pointer in page zero at `p`: both bytes, the second at `(p + 1) mod 256` (R43, R71, R72). -/
def zeroPagePointer (p : Byte) (s : State) : Word × State :=
  let lo := s.read (zext16 p)
  let hi := lo.2.read (zext16 (p + 1))
  (wordOf lo.1 hi.1, hi.2)

/-- The helper of a mode: the effective address and the state after the helper's cycles (R64 to R72). -/
def effAddr (u : Use) (o : Operand) (s : State) : Word × State :=
  match o with
  | .imm _ => (s.pc + 1, s)
  | .zp b => (zext16 b, s)
  | .zpx b => (zext16 (b + s.x), s.tick)
  | .zpy b => (zext16 (b + s.y), if Config.zpyTick then s.tick else s)
  | .abs w => (w, s)
  | .abx w => indexed u w s.x s
  | .aby w => indexed u w s.y s
  | .izx b => zeroPagePointer (b + s.x) s.tick
  | .izy b =>
    let ptr := zeroPagePointer b s
    indexed u ptr.1 ptr.2.y ptr.2

/-- `ReadOp(mode)` (R75). The immediate's data read is the operand fetch itself (R64). -/
def readOp (o : Operand) (s : State) : Byte × State :=
  match o with
  | .imm v => (v, s)
  | o =>
    let e := effAddr .readType o s
    e.2.read e.1

/-- `WriteOp(mode, v)` (R75). -/
def writeOp (o : Operand) (v : Byte) (s : State) : State :=
  let e := effAddr .writeType o s
  e.2.write e.1 v

/-- `RmwOp(mode, f)` (R75): read, the modify cycle, write; `f` may set flags and no dummy write is made. The
first component is the byte written. -/
def rmwOp (o : Operand) (f : Byte → Byte → Modified) (s : State) : Byte × State :=
  let e := effAddr .writeType o s
  let m := e.2.read e.1
  let t := m.2.tick
  let r := f t.p m.1
  (r.byte, ({ t with p := r.status } : State).write e.1 r.byte)

end Sys2Proof.Machine
end

