-- ==== Sys2Proof/Machine/LoadStore.lean ====
section
/-! DEFINITION. Loads, stores and register transfers (spec/40_load_store_transfer.md R100 to R111): first what the family
shares, then one meaning per opcode row. -/

namespace Sys2Proof.Machine

/-- The answer of a meaning. -/
abbrev Result := Host.Outcome State Fault Refusal

/-- `m <- ReadOp(mode); A <- m; SetNZ(m)` (R100). -/
def loadA (o : Operand) (s : State) : State :=
  let m := readOp o s
  ({ m.2 with a := m.1, p := setNZ m.2.p m.1 } : State).advance o.len

/-- `m <- ReadOp(mode); X <- m; SetNZ(m)` (R101). -/
def loadX (o : Operand) (s : State) : State :=
  let m := readOp o s
  ({ m.2 with x := m.1, p := setNZ m.2.p m.1 } : State).advance o.len

/-- `m <- ReadOp(mode); Y <- m; SetNZ(m)` (R102). -/
def loadY (o : Operand) (s : State) : State :=
  let m := readOp o s
  ({ m.2 with y := m.1, p := setNZ m.2.p m.1 } : State).advance o.len

/-- `WriteOp(mode, A)` (R103). -/
def storeA (o : Operand) (s : State) : State := (writeOp o s.a s).advance o.len

/-- `WriteOp(mode, X)` (R104). -/
def storeX (o : Operand) (s : State) : State := (writeOp o s.x s).advance o.len

/-- `WriteOp(mode, Y)` (R105). -/
def storeY (o : Operand) (s : State) : State := (writeOp o s.y s).advance o.len

/-- `Tick(); X <- A; SetNZ(A)` (R106). -/
def transferAX (s : State) : State :=
  let t := s.tick
  ({ t with x := t.a, p := setNZ t.p t.a } : State).advance 1

/-- `Tick(); Y <- A; SetNZ(A)` (R107). -/
def transferAY (s : State) : State :=
  let t := s.tick
  ({ t with y := t.a, p := setNZ t.p t.a } : State).advance 1

/-- `Tick(); A <- X; SetNZ(X)` (R108). -/
def transferXA (s : State) : State :=
  let t := s.tick
  ({ t with a := t.x, p := setNZ t.p t.x } : State).advance 1

/-- `Tick(); A <- Y; SetNZ(Y)` (R109). -/
def transferYA (s : State) : State :=
  let t := s.tick
  ({ t with a := t.y, p := setNZ t.p t.y } : State).advance 1

/-- `Tick(); X <- SP; SetNZ(SP)` (R110). -/
def transferSX (s : State) : State :=
  let t := s.tick
  ({ t with x := t.sp, p := setNZ t.p t.sp } : State).advance 1

/-- `Tick(); SP <- X`, no flag (R111). -/
def transferXS (s : State) : State :=
  let t := s.tick
  ({ t with sp := t.x } : State).advance 1

/-- `$A1` LDA (indirect,X) (R100). -/
def execLdaIzx (b : Byte) (s : State) : Result := .next (loadA (.izx b) s)

/-- `$A5` LDA zero-page (R100). -/
def execLdaZp (b : Byte) (s : State) : Result := .next (loadA (.zp b) s)

/-- `$A9` LDA immediate (R100). -/
def execLdaImm (b : Byte) (s : State) : Result := .next (loadA (.imm b) s)

/-- `$AD` LDA absolute (R100). -/
def execLdaAbs (w : Word) (s : State) : Result := .next (loadA (.abs w) s)

/-- `$B1` LDA (indirect),Y (R100). -/
def execLdaIzy (b : Byte) (s : State) : Result := .next (loadA (.izy b) s)

/-- `$B5` LDA zero-page,X (R100). -/
def execLdaZpx (b : Byte) (s : State) : Result := .next (loadA (.zpx b) s)

/-- `$B9` LDA absolute,Y (R100). -/
def execLdaAby (w : Word) (s : State) : Result := .next (loadA (.aby w) s)

/-- `$BD` LDA absolute,X (R100). -/
def execLdaAbx (w : Word) (s : State) : Result := .next (loadA (.abx w) s)

/-- `$A2` LDX immediate (R101). -/
def execLdxImm (b : Byte) (s : State) : Result := .next (loadX (.imm b) s)

/-- `$A6` LDX zero-page (R101). -/
def execLdxZp (b : Byte) (s : State) : Result := .next (loadX (.zp b) s)

/-- `$AE` LDX absolute (R101). -/
def execLdxAbs (w : Word) (s : State) : Result := .next (loadX (.abs w) s)

/-- `$B6` LDX zero-page,Y (R101). -/
def execLdxZpy (b : Byte) (s : State) : Result := .next (loadX (.zpy b) s)

/-- `$BE` LDX absolute,Y (R101). -/
def execLdxAby (w : Word) (s : State) : Result := .next (loadX (.aby w) s)

/-- `$A0` LDY immediate (R102). -/
def execLdyImm (b : Byte) (s : State) : Result := .next (loadY (.imm b) s)

/-- `$A4` LDY zero-page (R102). -/
def execLdyZp (b : Byte) (s : State) : Result := .next (loadY (.zp b) s)

/-- `$AC` LDY absolute (R102). -/
def execLdyAbs (w : Word) (s : State) : Result := .next (loadY (.abs w) s)

/-- `$B4` LDY zero-page,X (R102). -/
def execLdyZpx (b : Byte) (s : State) : Result := .next (loadY (.zpx b) s)

/-- `$BC` LDY absolute,X (R102). -/
def execLdyAbx (w : Word) (s : State) : Result := .next (loadY (.abx w) s)

/-- `$81` STA (indirect,X) (R103). -/
def execStaIzx (b : Byte) (s : State) : Result := .next (storeA (.izx b) s)

/-- `$85` STA zero-page (R103). -/
def execStaZp (b : Byte) (s : State) : Result := .next (storeA (.zp b) s)

/-- `$8D` STA absolute (R103). -/
def execStaAbs (w : Word) (s : State) : Result := .next (storeA (.abs w) s)

/-- `$91` STA (indirect),Y (R103). -/
def execStaIzy (b : Byte) (s : State) : Result := .next (storeA (.izy b) s)

/-- `$95` STA zero-page,X (R103). -/
def execStaZpx (b : Byte) (s : State) : Result := .next (storeA (.zpx b) s)

/-- `$99` STA absolute,Y (R103). -/
def execStaAby (w : Word) (s : State) : Result := .next (storeA (.aby w) s)

/-- `$9D` STA absolute,X (R103). -/
def execStaAbx (w : Word) (s : State) : Result := .next (storeA (.abx w) s)

/-- `$86` STX zero-page (R104). -/
def execStxZp (b : Byte) (s : State) : Result := .next (storeX (.zp b) s)

/-- `$8E` STX absolute (R104). -/
def execStxAbs (w : Word) (s : State) : Result := .next (storeX (.abs w) s)

/-- `$96` STX zero-page,Y (R104). -/
def execStxZpy (b : Byte) (s : State) : Result := .next (storeX (.zpy b) s)

/-- `$84` STY zero-page (R105). -/
def execStyZp (b : Byte) (s : State) : Result := .next (storeY (.zp b) s)

/-- `$8C` STY absolute (R105). -/
def execStyAbs (w : Word) (s : State) : Result := .next (storeY (.abs w) s)

/-- `$94` STY zero-page,X (R105). -/
def execStyZpx (b : Byte) (s : State) : Result := .next (storeY (.zpx b) s)

/-- `$AA` TAX (R106). -/
def execTax (s : State) : Result := .next (transferAX s)

/-- `$A8` TAY (R107). -/
def execTay (s : State) : Result := .next (transferAY s)

/-- `$8A` TXA (R108). -/
def execTxa (s : State) : Result := .next (transferXA s)

/-- `$98` TYA (R109). -/
def execTya (s : State) : Result := .next (transferYA s)

/-- `$BA` TSX (R110). -/
def execTsx (s : State) : Result := .next (transferSX s)

/-- `$9A` TXS (R111). -/
def execTxs (s : State) : Result := .next (transferXS s)

end Sys2Proof.Machine
end

