-- ==== Sys2Proof/Machine/Arith.lean ====
section
/-! DEFINITION. Arithmetic, logic, compare, bit test, increment and decrement (spec/41_arithmetic_logic.md R120 to R135): first
what the family shares, then one meaning per opcode row. -/

namespace Sys2Proof.Machine

/-- The addition of R120 into `A`: the result and C, V, N, Z; D is not read. -/
def State.adc (s : State) (m : Byte) : State :=
  { s with a := adcResult s.p s.a m, p := adcStatus s.p s.a m }

/-- The subtraction of R121: "SBC is ADC with M inverted (one's complement)". -/
def State.sbc (s : State) (m : Byte) : State := s.adc (sbcOperand m)

/-- `A <- v; SetNZ(A)`: the end of the logic instructions (R122 to R124). -/
def State.setA (s : State) (v : Byte) : State := { s with a := v, p := setNZ s.p v }

/-- ADC (R120). -/
def addMem (o : Operand) (s : State) : State :=
  let m := readOp o s
  (m.2.adc m.1).advance o.len

/-- SBC (R121). -/
def subMem (o : Operand) (s : State) : State :=
  let m := readOp o s
  (m.2.sbc m.1).advance o.len

/-- AND (R122). -/
def andMem (o : Operand) (s : State) : State :=
  let m := readOp o s
  (m.2.setA (m.2.a &&& m.1)).advance o.len

/-- ORA (R123). -/
def orMem (o : Operand) (s : State) : State :=
  let m := readOp o s
  (m.2.setA (m.2.a ||| m.1)).advance o.len

/-- EOR (R124). -/
def eorMem (o : Operand) (s : State) : State :=
  let m := readOp o s
  (m.2.setA (m.2.a ^^^ m.1)).advance o.len

/-- The compare of R125 between a register's value and a byte. -/
def State.compare (s : State) (r m : Byte) : State := { s with p := cmpStatus s.p r m }

/-- CMP (R125). -/
def compareA (o : Operand) (s : State) : State :=
  let m := readOp o s
  (m.2.compare m.2.a m.1).advance o.len

/-- CPX (R126). -/
def compareX (o : Operand) (s : State) : State :=
  let m := readOp o s
  (m.2.compare m.2.x m.1).advance o.len

/-- CPY (R127). -/
def compareY (o : Operand) (s : State) : State :=
  let m := readOp o s
  (m.2.compare m.2.y m.1).advance o.len

/-- BIT (R128). -/
def bitTest (o : Operand) (s : State) : State :=
  let m := readOp o s
  ({ m.2 with p := bitStatus m.2.p m.2.a m.1 } : State).advance o.len

/-- `r <- RmwOp(mode, f); SetNZ(r)`: INC, DEC and the memory shifts (R129, R130, R150 to R153). -/
def modifyMem (f : Byte → Byte → Modified) (o : Operand) (s : State) : State :=
  let r := rmwOp o f s
  ({ r.2 with p := setNZ r.2.p r.1 } : State).advance o.len

/-- INC (R129). -/
def incMem (o : Operand) (s : State) : State := modifyMem incF o s

/-- DEC (R130). -/
def decMem (o : Operand) (s : State) : State := modifyMem decF o s

/-- INX (R131). -/
def incX (s : State) : State :=
  let t := s.tick
  ({ t with x := t.x + 1, p := setNZ t.p (t.x + 1) } : State).advance 1

/-- INY (R132). -/
def incY (s : State) : State :=
  let t := s.tick
  ({ t with y := t.y + 1, p := setNZ t.p (t.y + 1) } : State).advance 1

/-- DEX (R133). -/
def decX (s : State) : State :=
  let t := s.tick
  ({ t with x := t.x - 1, p := setNZ t.p (t.x - 1) } : State).advance 1

/-- DEY (R134). -/
def decY (s : State) : State :=
  let t := s.tick
  ({ t with y := t.y - 1, p := setNZ t.p (t.y - 1) } : State).advance 1

/-- `$61` ADC (indirect,X) (R120). -/
def execAdcIzx (b : Byte) (s : State) : Result := .next (addMem (.izx b) s)

/-- `$65` ADC zero-page (R120). -/
def execAdcZp (b : Byte) (s : State) : Result := .next (addMem (.zp b) s)

/-- `$69` ADC immediate (R120). -/
def execAdcImm (b : Byte) (s : State) : Result := .next (addMem (.imm b) s)

/-- `$6D` ADC absolute (R120). -/
def execAdcAbs (w : Word) (s : State) : Result := .next (addMem (.abs w) s)

/-- `$71` ADC (indirect),Y (R120). -/
def execAdcIzy (b : Byte) (s : State) : Result := .next (addMem (.izy b) s)

/-- `$75` ADC zero-page,X (R120). -/
def execAdcZpx (b : Byte) (s : State) : Result := .next (addMem (.zpx b) s)

/-- `$79` ADC absolute,Y (R120). -/
def execAdcAby (w : Word) (s : State) : Result := .next (addMem (.aby w) s)

/-- `$7D` ADC absolute,X (R120). -/
def execAdcAbx (w : Word) (s : State) : Result := .next (addMem (.abx w) s)

/-- `$E1` SBC (indirect,X) (R121). -/
def execSbcIzx (b : Byte) (s : State) : Result := .next (subMem (.izx b) s)

/-- `$E5` SBC zero-page (R121). -/
def execSbcZp (b : Byte) (s : State) : Result := .next (subMem (.zp b) s)

/-- `$E9` SBC immediate (R121). -/
def execSbcImm (b : Byte) (s : State) : Result := .next (subMem (.imm b) s)

/-- `$ED` SBC absolute (R121). -/
def execSbcAbs (w : Word) (s : State) : Result := .next (subMem (.abs w) s)

/-- `$F1` SBC (indirect),Y (R121). -/
def execSbcIzy (b : Byte) (s : State) : Result := .next (subMem (.izy b) s)

/-- `$F5` SBC zero-page,X (R121). -/
def execSbcZpx (b : Byte) (s : State) : Result := .next (subMem (.zpx b) s)

/-- `$F9` SBC absolute,Y (R121). -/
def execSbcAby (w : Word) (s : State) : Result := .next (subMem (.aby w) s)

/-- `$FD` SBC absolute,X (R121). -/
def execSbcAbx (w : Word) (s : State) : Result := .next (subMem (.abx w) s)

/-- `$21` AND (indirect,X) (R122). -/
def execAndIzx (b : Byte) (s : State) : Result := .next (andMem (.izx b) s)

/-- `$25` AND zero-page (R122). -/
def execAndZp (b : Byte) (s : State) : Result := .next (andMem (.zp b) s)

/-- `$29` AND immediate (R122). -/
def execAndImm (b : Byte) (s : State) : Result := .next (andMem (.imm b) s)

/-- `$2D` AND absolute (R122). -/
def execAndAbs (w : Word) (s : State) : Result := .next (andMem (.abs w) s)

/-- `$31` AND (indirect),Y (R122). -/
def execAndIzy (b : Byte) (s : State) : Result := .next (andMem (.izy b) s)

/-- `$35` AND zero-page,X (R122). -/
def execAndZpx (b : Byte) (s : State) : Result := .next (andMem (.zpx b) s)

/-- `$39` AND absolute,Y (R122). -/
def execAndAby (w : Word) (s : State) : Result := .next (andMem (.aby w) s)

/-- `$3D` AND absolute,X (R122). -/
def execAndAbx (w : Word) (s : State) : Result := .next (andMem (.abx w) s)

/-- `$01` ORA (indirect,X) (R123). -/
def execOraIzx (b : Byte) (s : State) : Result := .next (orMem (.izx b) s)

/-- `$05` ORA zero-page (R123). -/
def execOraZp (b : Byte) (s : State) : Result := .next (orMem (.zp b) s)

/-- `$09` ORA immediate (R123). -/
def execOraImm (b : Byte) (s : State) : Result := .next (orMem (.imm b) s)

/-- `$0D` ORA absolute (R123). -/
def execOraAbs (w : Word) (s : State) : Result := .next (orMem (.abs w) s)

/-- `$11` ORA (indirect),Y (R123). -/
def execOraIzy (b : Byte) (s : State) : Result := .next (orMem (.izy b) s)

/-- `$15` ORA zero-page,X (R123). -/
def execOraZpx (b : Byte) (s : State) : Result := .next (orMem (.zpx b) s)

/-- `$19` ORA absolute,Y (R123). -/
def execOraAby (w : Word) (s : State) : Result := .next (orMem (.aby w) s)

/-- `$1D` ORA absolute,X (R123). -/
def execOraAbx (w : Word) (s : State) : Result := .next (orMem (.abx w) s)

/-- `$41` EOR (indirect,X) (R124). -/
def execEorIzx (b : Byte) (s : State) : Result := .next (eorMem (.izx b) s)

/-- `$45` EOR zero-page (R124). -/
def execEorZp (b : Byte) (s : State) : Result := .next (eorMem (.zp b) s)

/-- `$49` EOR immediate (R124). -/
def execEorImm (b : Byte) (s : State) : Result := .next (eorMem (.imm b) s)

/-- `$4D` EOR absolute (R124). -/
def execEorAbs (w : Word) (s : State) : Result := .next (eorMem (.abs w) s)

/-- `$51` EOR (indirect),Y (R124). -/
def execEorIzy (b : Byte) (s : State) : Result := .next (eorMem (.izy b) s)

/-- `$55` EOR zero-page,X (R124). -/
def execEorZpx (b : Byte) (s : State) : Result := .next (eorMem (.zpx b) s)

/-- `$59` EOR absolute,Y (R124). -/
def execEorAby (w : Word) (s : State) : Result := .next (eorMem (.aby w) s)

/-- `$5D` EOR absolute,X (R124). -/
def execEorAbx (w : Word) (s : State) : Result := .next (eorMem (.abx w) s)

/-- `$C1` CMP (indirect,X) (R125). -/
def execCmpIzx (b : Byte) (s : State) : Result := .next (compareA (.izx b) s)

/-- `$C5` CMP zero-page (R125). -/
def execCmpZp (b : Byte) (s : State) : Result := .next (compareA (.zp b) s)

/-- `$C9` CMP immediate (R125). -/
def execCmpImm (b : Byte) (s : State) : Result := .next (compareA (.imm b) s)

/-- `$CD` CMP absolute (R125). -/
def execCmpAbs (w : Word) (s : State) : Result := .next (compareA (.abs w) s)

/-- `$D1` CMP (indirect),Y (R125). -/
def execCmpIzy (b : Byte) (s : State) : Result := .next (compareA (.izy b) s)

/-- `$D5` CMP zero-page,X (R125). -/
def execCmpZpx (b : Byte) (s : State) : Result := .next (compareA (.zpx b) s)

/-- `$D9` CMP absolute,Y (R125). -/
def execCmpAby (w : Word) (s : State) : Result := .next (compareA (.aby w) s)

/-- `$DD` CMP absolute,X (R125). -/
def execCmpAbx (w : Word) (s : State) : Result := .next (compareA (.abx w) s)

/-- `$E0` CPX immediate (R126). -/
def execCpxImm (b : Byte) (s : State) : Result := .next (compareX (.imm b) s)

/-- `$E4` CPX zero-page (R126). -/
def execCpxZp (b : Byte) (s : State) : Result := .next (compareX (.zp b) s)

/-- `$EC` CPX absolute (R126). -/
def execCpxAbs (w : Word) (s : State) : Result := .next (compareX (.abs w) s)

/-- `$C0` CPY immediate (R127). -/
def execCpyImm (b : Byte) (s : State) : Result := .next (compareY (.imm b) s)

/-- `$C4` CPY zero-page (R127). -/
def execCpyZp (b : Byte) (s : State) : Result := .next (compareY (.zp b) s)

/-- `$CC` CPY absolute (R127). -/
def execCpyAbs (w : Word) (s : State) : Result := .next (compareY (.abs w) s)

/-- `$24` BIT zero-page (R128). -/
def execBitZp (b : Byte) (s : State) : Result := .next (bitTest (.zp b) s)

/-- `$2C` BIT absolute (R128). -/
def execBitAbs (w : Word) (s : State) : Result := .next (bitTest (.abs w) s)

/-- `$E6` INC zero-page (R129). -/
def execIncZp (b : Byte) (s : State) : Result := .next (incMem (.zp b) s)

/-- `$EE` INC absolute (R129). -/
def execIncAbs (w : Word) (s : State) : Result := .next (incMem (.abs w) s)

/-- `$F6` INC zero-page,X (R129). -/
def execIncZpx (b : Byte) (s : State) : Result := .next (incMem (.zpx b) s)

/-- `$FE` INC absolute,X (R129). -/
def execIncAbx (w : Word) (s : State) : Result := .next (incMem (.abx w) s)

/-- `$C6` DEC zero-page (R130). -/
def execDecZp (b : Byte) (s : State) : Result := .next (decMem (.zp b) s)

/-- `$CE` DEC absolute (R130). -/
def execDecAbs (w : Word) (s : State) : Result := .next (decMem (.abs w) s)

/-- `$D6` DEC zero-page,X (R130). -/
def execDecZpx (b : Byte) (s : State) : Result := .next (decMem (.zpx b) s)

/-- `$DE` DEC absolute,X (R130). -/
def execDecAbx (w : Word) (s : State) : Result := .next (decMem (.abx w) s)

/-- `$E8` INX (R131). -/
def execInx (s : State) : Result := .next (incX s)

/-- `$C8` INY (R132). -/
def execIny (s : State) : Result := .next (incY s)

/-- `$CA` DEX (R133). -/
def execDex (s : State) : Result := .next (decX s)

/-- `$88` DEY (R134). -/
def execDey (s : State) : Result := .next (decY s)

end Sys2Proof.Machine
end

