-- ==== Sys2Proof/Machine/Control.lean ====
section
/-! DEFINITION. Jumps, call and return, conditional branches (spec/43_control_flow.md R160 to R172): first what the family
shares, then one meaning per opcode row. -/

namespace Sys2Proof.Machine

/-- JMP absolute (R160). -/
def jumpTo (w : Word) (s : State) : State := { s with pc := w }

/-- The address of the high byte of a JMP indirect pointer: the next one inside the pointer's page (R43, R161). -/
def pointerHigh (ptr : Word) : Word := (ptr &&& 0xFF00) ||| ((ptr + 1) &&& 0x00FF)

/-- JMP indirect, with the page-wrap defect (R161). -/
def jumpIndirect (ptr : Word) (s : State) : State :=
  let lo := s.read ptr
  let hi := lo.2.read (pointerHigh ptr)
  { hi.2 with pc := wordOf lo.1 hi.1 }

/-- JSR: one internal cycle, the address of its own last byte pushed, then the jump (R162). -/
def call (w : Word) (s : State) : State :=
  let t := s.tick
  { t.pushWord (t.pc + 2) with pc := w }

/-- RTS: two internal cycles, the word pulled, one internal cycle, and the address after it (R163). -/
def returnSub (s : State) : State :=
  let w := s.tick.tick.pullWord
  let t := w.2.tick
  { t with pc := w.1 + 1 }

/-- `next`: the address after a branch (R164). -/
def branchNext (pc0 : Word) : Word := pc0 + 2

/-- The target of a branch: `(pc0 + 2 + sext_16(b1)) mod 65536` (R73). -/
def branchTarget (pc0 : Word) (b : Byte) : Word := branchNext pc0 + sext16 b

/-- `Branch(P[f] == v)` (R164): one cycle more when taken, one more when the target's page is not that of `next`. -/
def branch (f : Nat) (v : Bool) (b : Byte) (s : State) : State :=
  if s.p.getLsbD f = v then
    let t := s.tick
    let u := if hiByte (branchTarget s.pc b) ≠ hiByte (branchNext s.pc) then t.tick else t
    { u with pc := branchTarget s.pc b }
  else { s with pc := branchNext s.pc }

/-- `$4C` JMP absolute (R160). -/
def execJmpAbs (w : Word) (s : State) : Result := .next (jumpTo w s)

/-- `$6C` JMP indirect (R161). -/
def execJmpInd (w : Word) (s : State) : Result := .next (jumpIndirect w s)

/-- `$20` JSR absolute (R162). -/
def execJsr (w : Word) (s : State) : Result := .next (call w s)

/-- `$60` RTS (R163). -/
def execRts (s : State) : Result := .next (returnSub s)

/-- `$90` BCC relative (R165). -/
def execBcc (b : Byte) (s : State) : Result := .next (branch flagC false b s)

/-- `$B0` BCS relative (R166). -/
def execBcs (b : Byte) (s : State) : Result := .next (branch flagC true b s)

/-- `$F0` BEQ relative (R167). -/
def execBeq (b : Byte) (s : State) : Result := .next (branch flagZ true b s)

/-- `$D0` BNE relative (R168). -/
def execBne (b : Byte) (s : State) : Result := .next (branch flagZ false b s)

/-- `$30` BMI relative (R169). -/
def execBmi (b : Byte) (s : State) : Result := .next (branch flagN true b s)

/-- `$10` BPL relative (R170). -/
def execBpl (b : Byte) (s : State) : Result := .next (branch flagN false b s)

/-- `$50` BVC relative (R171). -/
def execBvc (b : Byte) (s : State) : Result := .next (branch flagV false b s)

/-- `$70` BVS relative (R172). -/
def execBvs (b : Byte) (s : State) : Result := .next (branch flagV true b s)

end Sys2Proof.Machine
end

