-- ==== Sys2Proof/Machine/Shift.lean ====
section
/-! DEFINITION. Shifts and rotates (spec/42_shift_rotate.md R150 to R153): the accumulator form and the memory form, then one
meaning per opcode row. -/

namespace Sys2Proof.Machine

/-- The accumulator form: `Tick(); A <- f(A); SetNZ(A)` (R63, R150 to R153). -/
def shiftA (f : Byte → Byte → Modified) (s : State) : State :=
  let t := s.tick
  let r := f t.p t.a
  ({ t with a := r.byte, p := setNZ r.status r.byte } : State).advance 1

/-- The memory form: `r <- RmwOp(mode, f); SetNZ(r)`; `A` is not touched (R150 to R153). -/
def shiftMem (f : Byte → Byte → Modified) (o : Operand) (s : State) : State := modifyMem f o s

/-- `$06` ASL zero-page (R150). -/
def execAslZp (b : Byte) (s : State) : Result := .next (shiftMem aslF (.zp b) s)

/-- `$0A` ASL accumulator (R150). -/
def execAslAcc (s : State) : Result := .next (shiftA aslF s)

/-- `$0E` ASL absolute (R150). -/
def execAslAbs (w : Word) (s : State) : Result := .next (shiftMem aslF (.abs w) s)

/-- `$16` ASL zero-page,X (R150). -/
def execAslZpx (b : Byte) (s : State) : Result := .next (shiftMem aslF (.zpx b) s)

/-- `$1E` ASL absolute,X (R150). -/
def execAslAbx (w : Word) (s : State) : Result := .next (shiftMem aslF (.abx w) s)

/-- `$46` LSR zero-page (R151). -/
def execLsrZp (b : Byte) (s : State) : Result := .next (shiftMem lsrF (.zp b) s)

/-- `$4A` LSR accumulator (R151). -/
def execLsrAcc (s : State) : Result := .next (shiftA lsrF s)

/-- `$4E` LSR absolute (R151). -/
def execLsrAbs (w : Word) (s : State) : Result := .next (shiftMem lsrF (.abs w) s)

/-- `$56` LSR zero-page,X (R151). -/
def execLsrZpx (b : Byte) (s : State) : Result := .next (shiftMem lsrF (.zpx b) s)

/-- `$5E` LSR absolute,X (R151). -/
def execLsrAbx (w : Word) (s : State) : Result := .next (shiftMem lsrF (.abx w) s)

/-- `$26` ROL zero-page (R152). -/
def execRolZp (b : Byte) (s : State) : Result := .next (shiftMem rolF (.zp b) s)

/-- `$2A` ROL accumulator (R152). -/
def execRolAcc (s : State) : Result := .next (shiftA rolF s)

/-- `$2E` ROL absolute (R152). -/
def execRolAbs (w : Word) (s : State) : Result := .next (shiftMem rolF (.abs w) s)

/-- `$36` ROL zero-page,X (R152). -/
def execRolZpx (b : Byte) (s : State) : Result := .next (shiftMem rolF (.zpx b) s)

/-- `$3E` ROL absolute,X (R152). -/
def execRolAbx (w : Word) (s : State) : Result := .next (shiftMem rolF (.abx w) s)

/-- `$66` ROR zero-page (R153). -/
def execRorZp (b : Byte) (s : State) : Result := .next (shiftMem rorF (.zp b) s)

/-- `$6A` ROR accumulator (R153). -/
def execRorAcc (s : State) : Result := .next (shiftA rorF s)

/-- `$6E` ROR absolute (R153). -/
def execRorAbs (w : Word) (s : State) : Result := .next (shiftMem rorF (.abs w) s)

/-- `$76` ROR zero-page,X (R153). -/
def execRorZpx (b : Byte) (s : State) : Result := .next (shiftMem rorF (.zpx b) s)

/-- `$7E` ROR absolute,X (R153). -/
def execRorAbx (w : Word) (s : State) : Result := .next (shiftMem rorF (.abx w) s)

end Sys2Proof.Machine
end

