-- ==== Sys2Proof/Machine/System.lean ====
section
/-! DEFINITION. Stack, flags, NOP, BRK and RTI (spec/44_stack_flags_system.md R180 to R193): first what the family shares,
then one meaning per opcode row. -/

namespace Sys2Proof.Machine

/-- `Tick(); Push(A)` (R180). -/
def pushA (s : State) : State :=
  let t := s.tick
  (t.push t.a).advance 1

/-- `Tick(); Push(P | 0x30)` (R181). -/
def pushP (s : State) : State :=
  let t := s.tick
  (t.push (pushedByInstr t.p)).advance 1

/-- `Tick(); Tick(); A <- Pull(); SetNZ(A)` (R182). -/
def pullA (s : State) : State :=
  let m := s.tick.tick.pull
  ({ m.2 with a := m.1, p := setNZ m.2.p m.1 } : State).advance 1

/-- `Tick(); Tick(); b <- Pull(); P <- (b & 0xEF) | 0x20` (R183). -/
def pullP (s : State) : State :=
  let m := s.tick.tick.pull
  ({ m.2 with p := pulledStatus m.1 } : State).advance 1

/-- `Tick(); P[f] <- v` (R184 to R190). -/
def setFlag (f : Nat) (v : Bool) (s : State) : State :=
  let t := s.tick
  ({ t with p := setBit t.p f v } : State).advance 1

/-- `Tick()` (R191, R208). -/
def noOp (s : State) : State := s.tick.advance 1

/-- BRK (R192): one internal cycle, then entry through $FFFE/$FFFF with return address `pc0 + 2`. -/
def softwareTrap (s : State) : State :=
  let t := s.tick
  t.enterVector (t.pc + 2) (pushedByInstr t.p) brkVector

/-- RTI (R193): two internal cycles, then the return. -/
def returnTrap (s : State) : State := s.tick.tick.returnFromException

/-- `$48` PHA (R180). -/
def execPha (s : State) : Result := .next (pushA s)

/-- `$08` PHP (R181). -/
def execPhp (s : State) : Result := .next (pushP s)

/-- `$68` PLA (R182). -/
def execPla (s : State) : Result := .next (pullA s)

/-- `$28` PLP (R183). -/
def execPlp (s : State) : Result := .next (pullP s)

/-- `$18` CLC (R184). -/
def execClc (s : State) : Result := .next (setFlag flagC false s)

/-- `$38` SEC (R185). -/
def execSec (s : State) : Result := .next (setFlag flagC true s)

/-- `$58` CLI (R186). -/
def execCli (s : State) : Result := .next (setFlag flagI false s)

/-- `$78` SEI (R187). -/
def execSei (s : State) : Result := .next (setFlag flagI true s)

/-- `$B8` CLV (R188). -/
def execClv (s : State) : Result := .next (setFlag flagV false s)

/-- `$D8` CLD (R189). -/
def execCld (s : State) : Result := .next (setFlag flagD false s)

/-- `$F8` SED (R190). -/
def execSed (s : State) : Result := .next (setFlag flagD true s)

/-- `$EA` NOP (R191). -/
def execNop (s : State) : Result := .next (noOp s)

/-- `$00` BRK (R192). -/
def execBrk (s : State) : Result := .next (softwareTrap s)

/-- `$40` RTI (R193). -/
def execRti (s : State) : Result := .next (returnTrap s)

end Sys2Proof.Machine
end

