-- ==== Sys2Proof/Machine/Undocumented.lean ====
section
/-! DEFINITION. Undocumented opcodes and the unknown-opcode rule (spec/45_undocumented.md R200 to R212): first what the family
shares, then one meaning per opcode row. -/

namespace Sys2Proof.Machine

/-- *LAX: `m <- ReadOp(mode); A <- m; X <- m; SetNZ(m)` (R200). -/
def loadAX (o : Operand) (s : State) : State :=
  let m := readOp o s
  ({ m.2 with a := m.1, x := m.1, p := setNZ m.2.p m.1 } : State).advance o.len

/-- *SAX: `WriteOp(mode, A & X)` (R201). -/
def storeAX (o : Operand) (s : State) : State := (writeOp o (s.a &&& s.x) s).advance o.len

/-- *DCP: decrement memory, then compare with `A` (R202). -/
def decCompare (o : Operand) (s : State) : State :=
  let r := rmwOp o decF s
  (r.2.compare r.2.a r.1).advance o.len

/-- *ISB: increment memory, then subtract from `A` (R203). -/
def incSub (o : Operand) (s : State) : State :=
  let r := rmwOp o incF s
  (r.2.sbc r.1).advance o.len

/-- *SLO: shift memory left, then OR into `A` (R204). -/
def shiftOr (o : Operand) (s : State) : State :=
  let r := rmwOp o aslF s
  (r.2.setA (r.2.a ||| r.1)).advance o.len

/-- *RLA: rotate memory left, then AND into `A` (R205). -/
def rotateAnd (o : Operand) (s : State) : State :=
  let r := rmwOp o rolF s
  (r.2.setA (r.2.a &&& r.1)).advance o.len

/-- *SRE: shift memory right, then EOR into `A` (R206). -/
def shiftEor (o : Operand) (s : State) : State :=
  let r := rmwOp o lsrF s
  (r.2.setA (r.2.a ^^^ r.1)).advance o.len

/-- *RRA: rotate memory right, then add to `A` with the bit rotated out as carry (R207). -/
def rotateAdd (o : Operand) (s : State) : State :=
  let r := rmwOp o rorF s
  (r.2.adc r.1).advance o.len

/-- The *NOP variants with an operand: `ReadOp(mode)`, the value discarded (R209, R210). -/
def readDiscard (o : Operand) (s : State) : State := (readOp o s).2.advance o.len

/-- *UNK: `Log(UnknownOpcode op pc0); PC <- (pc0 + 1) mod 65536`, nothing else and no further cycle (R212). -/
def unknownOpcode (op : Byte) (s : State) : State := (s.logged (.unknownOpcode op s.pc)).advance 1

/-- `$A3` *LAX (indirect,X) (R200). -/
def execLaxIzx (b : Byte) (s : State) : Result := .next (loadAX (.izx b) s)

/-- `$A7` *LAX zero-page (R200). -/
def execLaxZp (b : Byte) (s : State) : Result := .next (loadAX (.zp b) s)

/-- `$AF` *LAX absolute (R200). -/
def execLaxAbs (w : Word) (s : State) : Result := .next (loadAX (.abs w) s)

/-- `$B3` *LAX (indirect),Y (R200). -/
def execLaxIzy (b : Byte) (s : State) : Result := .next (loadAX (.izy b) s)

/-- `$B7` *LAX zero-page,Y (R200). -/
def execLaxZpy (b : Byte) (s : State) : Result := .next (loadAX (.zpy b) s)

/-- `$BF` *LAX absolute,Y (R200). -/
def execLaxAby (w : Word) (s : State) : Result := .next (loadAX (.aby w) s)

/-- `$83` *SAX (indirect,X) (R201). -/
def execSaxIzx (b : Byte) (s : State) : Result := .next (storeAX (.izx b) s)

/-- `$87` *SAX zero-page (R201). -/
def execSaxZp (b : Byte) (s : State) : Result := .next (storeAX (.zp b) s)

/-- `$8F` *SAX absolute (R201). -/
def execSaxAbs (w : Word) (s : State) : Result := .next (storeAX (.abs w) s)

/-- `$97` *SAX zero-page,Y (R201). -/
def execSaxZpy (b : Byte) (s : State) : Result := .next (storeAX (.zpy b) s)

/-- `$C3` *DCP (indirect,X) (R202). -/
def execDcpIzx (b : Byte) (s : State) : Result := .next (decCompare (.izx b) s)

/-- `$C7` *DCP zero-page (R202). -/
def execDcpZp (b : Byte) (s : State) : Result := .next (decCompare (.zp b) s)

/-- `$CF` *DCP absolute (R202). -/
def execDcpAbs (w : Word) (s : State) : Result := .next (decCompare (.abs w) s)

/-- `$D3` *DCP (indirect),Y (R202). -/
def execDcpIzy (b : Byte) (s : State) : Result := .next (decCompare (.izy b) s)

/-- `$D7` *DCP zero-page,X (R202). -/
def execDcpZpx (b : Byte) (s : State) : Result := .next (decCompare (.zpx b) s)

/-- `$DB` *DCP absolute,Y (R202). -/
def execDcpAby (w : Word) (s : State) : Result := .next (decCompare (.aby w) s)

/-- `$DF` *DCP absolute,X (R202). -/
def execDcpAbx (w : Word) (s : State) : Result := .next (decCompare (.abx w) s)

/-- `$E3` *ISB (indirect,X) (R203). -/
def execIsbIzx (b : Byte) (s : State) : Result := .next (incSub (.izx b) s)

/-- `$E7` *ISB zero-page (R203). -/
def execIsbZp (b : Byte) (s : State) : Result := .next (incSub (.zp b) s)

/-- `$EF` *ISB absolute (R203). -/
def execIsbAbs (w : Word) (s : State) : Result := .next (incSub (.abs w) s)

/-- `$F3` *ISB (indirect),Y (R203). -/
def execIsbIzy (b : Byte) (s : State) : Result := .next (incSub (.izy b) s)

/-- `$F7` *ISB zero-page,X (R203). -/
def execIsbZpx (b : Byte) (s : State) : Result := .next (incSub (.zpx b) s)

/-- `$FB` *ISB absolute,Y (R203). -/
def execIsbAby (w : Word) (s : State) : Result := .next (incSub (.aby w) s)

/-- `$FF` *ISB absolute,X (R203). -/
def execIsbAbx (w : Word) (s : State) : Result := .next (incSub (.abx w) s)

/-- `$03` *SLO (indirect,X) (R204). -/
def execSloIzx (b : Byte) (s : State) : Result := .next (shiftOr (.izx b) s)

/-- `$07` *SLO zero-page (R204). -/
def execSloZp (b : Byte) (s : State) : Result := .next (shiftOr (.zp b) s)

/-- `$0F` *SLO absolute (R204). -/
def execSloAbs (w : Word) (s : State) : Result := .next (shiftOr (.abs w) s)

/-- `$13` *SLO (indirect),Y (R204). -/
def execSloIzy (b : Byte) (s : State) : Result := .next (shiftOr (.izy b) s)

/-- `$17` *SLO zero-page,X (R204). -/
def execSloZpx (b : Byte) (s : State) : Result := .next (shiftOr (.zpx b) s)

/-- `$1B` *SLO absolute,Y (R204). -/
def execSloAby (w : Word) (s : State) : Result := .next (shiftOr (.aby w) s)

/-- `$1F` *SLO absolute,X (R204). -/
def execSloAbx (w : Word) (s : State) : Result := .next (shiftOr (.abx w) s)

/-- `$23` *RLA (indirect,X) (R205). -/
def execRlaIzx (b : Byte) (s : State) : Result := .next (rotateAnd (.izx b) s)

/-- `$27` *RLA zero-page (R205). -/
def execRlaZp (b : Byte) (s : State) : Result := .next (rotateAnd (.zp b) s)

/-- `$2F` *RLA absolute (R205). -/
def execRlaAbs (w : Word) (s : State) : Result := .next (rotateAnd (.abs w) s)

/-- `$33` *RLA (indirect),Y (R205). -/
def execRlaIzy (b : Byte) (s : State) : Result := .next (rotateAnd (.izy b) s)

/-- `$37` *RLA zero-page,X (R205). -/
def execRlaZpx (b : Byte) (s : State) : Result := .next (rotateAnd (.zpx b) s)

/-- `$3B` *RLA absolute,Y (R205). -/
def execRlaAby (w : Word) (s : State) : Result := .next (rotateAnd (.aby w) s)

/-- `$3F` *RLA absolute,X (R205). -/
def execRlaAbx (w : Word) (s : State) : Result := .next (rotateAnd (.abx w) s)

/-- `$43` *SRE (indirect,X) (R206). -/
def execSreIzx (b : Byte) (s : State) : Result := .next (shiftEor (.izx b) s)

/-- `$47` *SRE zero-page (R206). -/
def execSreZp (b : Byte) (s : State) : Result := .next (shiftEor (.zp b) s)

/-- `$4F` *SRE absolute (R206). -/
def execSreAbs (w : Word) (s : State) : Result := .next (shiftEor (.abs w) s)

/-- `$53` *SRE (indirect),Y (R206). -/
def execSreIzy (b : Byte) (s : State) : Result := .next (shiftEor (.izy b) s)

/-- `$57` *SRE zero-page,X (R206). -/
def execSreZpx (b : Byte) (s : State) : Result := .next (shiftEor (.zpx b) s)

/-- `$5B` *SRE absolute,Y (R206). -/
def execSreAby (w : Word) (s : State) : Result := .next (shiftEor (.aby w) s)

/-- `$5F` *SRE absolute,X (R206). -/
def execSreAbx (w : Word) (s : State) : Result := .next (shiftEor (.abx w) s)

/-- `$63` *RRA (indirect,X) (R207). -/
def execRraIzx (b : Byte) (s : State) : Result := .next (rotateAdd (.izx b) s)

/-- `$67` *RRA zero-page (R207). -/
def execRraZp (b : Byte) (s : State) : Result := .next (rotateAdd (.zp b) s)

/-- `$6F` *RRA absolute (R207). -/
def execRraAbs (w : Word) (s : State) : Result := .next (rotateAdd (.abs w) s)

/-- `$73` *RRA (indirect),Y (R207). -/
def execRraIzy (b : Byte) (s : State) : Result := .next (rotateAdd (.izy b) s)

/-- `$77` *RRA zero-page,X (R207). -/
def execRraZpx (b : Byte) (s : State) : Result := .next (rotateAdd (.zpx b) s)

/-- `$7B` *RRA absolute,Y (R207). -/
def execRraAby (w : Word) (s : State) : Result := .next (rotateAdd (.aby w) s)

/-- `$7F` *RRA absolute,X (R207). -/
def execRraAbx (w : Word) (s : State) : Result := .next (rotateAdd (.abx w) s)

/-- `$04` *NOP zero-page (R210). -/
def execNopZp04 (b : Byte) (s : State) : Result := .next (readDiscard (.zp b) s)

/-- `$0C` *NOP absolute (R210). -/
def execNopAbs0C (w : Word) (s : State) : Result := .next (readDiscard (.abs w) s)

/-- `$14` *NOP zero-page,X (R210). -/
def execNopZpx14 (b : Byte) (s : State) : Result := .next (readDiscard (.zpx b) s)

/-- `$1A` *NOP (R208). -/
def execNop1A (s : State) : Result := .next (noOp s)

/-- `$1C` *NOP absolute,X (R210). -/
def execNopAbx1C (w : Word) (s : State) : Result := .next (readDiscard (.abx w) s)

/-- `$34` *NOP zero-page,X (R210). -/
def execNopZpx34 (b : Byte) (s : State) : Result := .next (readDiscard (.zpx b) s)

/-- `$3A` *NOP (R208). -/
def execNop3A (s : State) : Result := .next (noOp s)

/-- `$3C` *NOP absolute,X (R210). -/
def execNopAbx3C (w : Word) (s : State) : Result := .next (readDiscard (.abx w) s)

/-- `$44` *NOP zero-page (R210). -/
def execNopZp44 (b : Byte) (s : State) : Result := .next (readDiscard (.zp b) s)

/-- `$54` *NOP zero-page,X (R210). -/
def execNopZpx54 (b : Byte) (s : State) : Result := .next (readDiscard (.zpx b) s)

/-- `$5A` *NOP (R208). -/
def execNop5A (s : State) : Result := .next (noOp s)

/-- `$5C` *NOP absolute,X (R210). -/
def execNopAbx5C (w : Word) (s : State) : Result := .next (readDiscard (.abx w) s)

/-- `$64` *NOP zero-page (R210). -/
def execNopZp64 (b : Byte) (s : State) : Result := .next (readDiscard (.zp b) s)

/-- `$74` *NOP zero-page,X (R210). -/
def execNopZpx74 (b : Byte) (s : State) : Result := .next (readDiscard (.zpx b) s)

/-- `$7A` *NOP (R208). -/
def execNop7A (s : State) : Result := .next (noOp s)

/-- `$7C` *NOP absolute,X (R210). -/
def execNopAbx7C (w : Word) (s : State) : Result := .next (readDiscard (.abx w) s)

/-- `$80` *NOP immediate (R209). -/
def execNopImm80 (b : Byte) (s : State) : Result := .next (readDiscard (.imm b) s)

/-- `$D4` *NOP zero-page,X (R210). -/
def execNopZpxD4 (b : Byte) (s : State) : Result := .next (readDiscard (.zpx b) s)

/-- `$DA` *NOP (R208). -/
def execNopDA (s : State) : Result := .next (noOp s)

/-- `$DC` *NOP absolute,X (R210). -/
def execNopAbxDC (w : Word) (s : State) : Result := .next (readDiscard (.abx w) s)

/-- `$F4` *NOP zero-page,X (R210). -/
def execNopZpxF4 (b : Byte) (s : State) : Result := .next (readDiscard (.zpx b) s)

/-- `$FA` *NOP (R208). -/
def execNopFA (s : State) : Result := .next (noOp s)

/-- `$FC` *NOP absolute,X (R210). -/
def execNopAbxFC (w : Word) (s : State) : Result := .next (readDiscard (.abx w) s)

/-- `$EB` *SBC immediate (R211). -/
def execSbcImmEB (b : Byte) (s : State) : Result := .next (subMem (.imm b) s)

/-- `$02` *UNK (R212). -/
def execUnk02 (s : State) : Result := .next (unknownOpcode 0x02 s)

/-- `$0B` *UNK (R212). -/
def execUnk0B (s : State) : Result := .next (unknownOpcode 0x0B s)

/-- `$12` *UNK (R212). -/
def execUnk12 (s : State) : Result := .next (unknownOpcode 0x12 s)

/-- `$22` *UNK (R212). -/
def execUnk22 (s : State) : Result := .next (unknownOpcode 0x22 s)

/-- `$2B` *UNK (R212). -/
def execUnk2B (s : State) : Result := .next (unknownOpcode 0x2B s)

/-- `$32` *UNK (R212). -/
def execUnk32 (s : State) : Result := .next (unknownOpcode 0x32 s)

/-- `$42` *UNK (R212). -/
def execUnk42 (s : State) : Result := .next (unknownOpcode 0x42 s)

/-- `$4B` *UNK (R212). -/
def execUnk4B (s : State) : Result := .next (unknownOpcode 0x4B s)

/-- `$52` *UNK (R212). -/
def execUnk52 (s : State) : Result := .next (unknownOpcode 0x52 s)

/-- `$62` *UNK (R212). -/
def execUnk62 (s : State) : Result := .next (unknownOpcode 0x62 s)

/-- `$6B` *UNK (R212). -/
def execUnk6B (s : State) : Result := .next (unknownOpcode 0x6B s)

/-- `$72` *UNK (R212). -/
def execUnk72 (s : State) : Result := .next (unknownOpcode 0x72 s)

/-- `$82` *UNK (R212). -/
def execUnk82 (s : State) : Result := .next (unknownOpcode 0x82 s)

/-- `$89` *UNK (R212). -/
def execUnk89 (s : State) : Result := .next (unknownOpcode 0x89 s)

/-- `$8B` *UNK (R212). -/
def execUnk8B (s : State) : Result := .next (unknownOpcode 0x8B s)

/-- `$92` *UNK (R212). -/
def execUnk92 (s : State) : Result := .next (unknownOpcode 0x92 s)

/-- `$93` *UNK (R212). -/
def execUnk93 (s : State) : Result := .next (unknownOpcode 0x93 s)

/-- `$9B` *UNK (R212). -/
def execUnk9B (s : State) : Result := .next (unknownOpcode 0x9B s)

/-- `$9C` *UNK (R212). -/
def execUnk9C (s : State) : Result := .next (unknownOpcode 0x9C s)

/-- `$9E` *UNK (R212). -/
def execUnk9E (s : State) : Result := .next (unknownOpcode 0x9E s)

/-- `$9F` *UNK (R212). -/
def execUnk9F (s : State) : Result := .next (unknownOpcode 0x9F s)

/-- `$AB` *UNK (R212). -/
def execUnkAB (s : State) : Result := .next (unknownOpcode 0xAB s)

/-- `$B2` *UNK (R212). -/
def execUnkB2 (s : State) : Result := .next (unknownOpcode 0xB2 s)

/-- `$BB` *UNK (R212). -/
def execUnkBB (s : State) : Result := .next (unknownOpcode 0xBB s)

/-- `$C2` *UNK (R212). -/
def execUnkC2 (s : State) : Result := .next (unknownOpcode 0xC2 s)

/-- `$CB` *UNK (R212). -/
def execUnkCB (s : State) : Result := .next (unknownOpcode 0xCB s)

/-- `$D2` *UNK (R212). -/
def execUnkD2 (s : State) : Result := .next (unknownOpcode 0xD2 s)

/-- `$E2` *UNK (R212). -/
def execUnkE2 (s : State) : Result := .next (unknownOpcode 0xE2 s)

/-- `$F2` *UNK (R212). -/
def execUnkF2 (s : State) : Result := .next (unknownOpcode 0xF2 s)

end Sys2Proof.Machine
end

