-- ==== Sys2Proof/Machine/Dispatch.lean ====
section
/-! DEFINITION. The 256-entry dispatch: one arm per constructor of Instr, each one direct call of its meaning
(spec/30_encoding.md R61, R76). -/

namespace Sys2Proof.Machine

def exec (i : Instr) (s : State) : Host.Outcome State Fault Refusal :=
  match i with
  -- LoadStore
  | .ldaIzx b => Sys2Proof.Machine.execLdaIzx b s
  | .ldaZp b => Sys2Proof.Machine.execLdaZp b s
  | .ldaImm b => Sys2Proof.Machine.execLdaImm b s
  | .ldaAbs w => Sys2Proof.Machine.execLdaAbs w s
  | .ldaIzy b => Sys2Proof.Machine.execLdaIzy b s
  | .ldaZpx b => Sys2Proof.Machine.execLdaZpx b s
  | .ldaAby w => Sys2Proof.Machine.execLdaAby w s
  | .ldaAbx w => Sys2Proof.Machine.execLdaAbx w s
  | .ldxImm b => Sys2Proof.Machine.execLdxImm b s
  | .ldxZp b => Sys2Proof.Machine.execLdxZp b s
  | .ldxAbs w => Sys2Proof.Machine.execLdxAbs w s
  | .ldxZpy b => Sys2Proof.Machine.execLdxZpy b s
  | .ldxAby w => Sys2Proof.Machine.execLdxAby w s
  | .ldyImm b => Sys2Proof.Machine.execLdyImm b s
  | .ldyZp b => Sys2Proof.Machine.execLdyZp b s
  | .ldyAbs w => Sys2Proof.Machine.execLdyAbs w s
  | .ldyZpx b => Sys2Proof.Machine.execLdyZpx b s
  | .ldyAbx w => Sys2Proof.Machine.execLdyAbx w s
  | .staIzx b => Sys2Proof.Machine.execStaIzx b s
  | .staZp b => Sys2Proof.Machine.execStaZp b s
  | .staAbs w => Sys2Proof.Machine.execStaAbs w s
  | .staIzy b => Sys2Proof.Machine.execStaIzy b s
  | .staZpx b => Sys2Proof.Machine.execStaZpx b s
  | .staAby w => Sys2Proof.Machine.execStaAby w s
  | .staAbx w => Sys2Proof.Machine.execStaAbx w s
  | .stxZp b => Sys2Proof.Machine.execStxZp b s
  | .stxAbs w => Sys2Proof.Machine.execStxAbs w s
  | .stxZpy b => Sys2Proof.Machine.execStxZpy b s
  | .styZp b => Sys2Proof.Machine.execStyZp b s
  | .styAbs w => Sys2Proof.Machine.execStyAbs w s
  | .styZpx b => Sys2Proof.Machine.execStyZpx b s
  | .tax => Sys2Proof.Machine.execTax s
  | .tay => Sys2Proof.Machine.execTay s
  | .txa => Sys2Proof.Machine.execTxa s
  | .tya => Sys2Proof.Machine.execTya s
  | .tsx => Sys2Proof.Machine.execTsx s
  | .txs => Sys2Proof.Machine.execTxs s
  -- Arith
  | .adcIzx b => Sys2Proof.Machine.execAdcIzx b s
  | .adcZp b => Sys2Proof.Machine.execAdcZp b s
  | .adcImm b => Sys2Proof.Machine.execAdcImm b s
  | .adcAbs w => Sys2Proof.Machine.execAdcAbs w s
  | .adcIzy b => Sys2Proof.Machine.execAdcIzy b s
  | .adcZpx b => Sys2Proof.Machine.execAdcZpx b s
  | .adcAby w => Sys2Proof.Machine.execAdcAby w s
  | .adcAbx w => Sys2Proof.Machine.execAdcAbx w s
  | .sbcIzx b => Sys2Proof.Machine.execSbcIzx b s
  | .sbcZp b => Sys2Proof.Machine.execSbcZp b s
  | .sbcImm b => Sys2Proof.Machine.execSbcImm b s
  | .sbcAbs w => Sys2Proof.Machine.execSbcAbs w s
  | .sbcIzy b => Sys2Proof.Machine.execSbcIzy b s
  | .sbcZpx b => Sys2Proof.Machine.execSbcZpx b s
  | .sbcAby w => Sys2Proof.Machine.execSbcAby w s
  | .sbcAbx w => Sys2Proof.Machine.execSbcAbx w s
  | .andIzx b => Sys2Proof.Machine.execAndIzx b s
  | .andZp b => Sys2Proof.Machine.execAndZp b s
  | .andImm b => Sys2Proof.Machine.execAndImm b s
  | .andAbs w => Sys2Proof.Machine.execAndAbs w s
  | .andIzy b => Sys2Proof.Machine.execAndIzy b s
  | .andZpx b => Sys2Proof.Machine.execAndZpx b s
  | .andAby w => Sys2Proof.Machine.execAndAby w s
  | .andAbx w => Sys2Proof.Machine.execAndAbx w s
  | .oraIzx b => Sys2Proof.Machine.execOraIzx b s
  | .oraZp b => Sys2Proof.Machine.execOraZp b s
  | .oraImm b => Sys2Proof.Machine.execOraImm b s
  | .oraAbs w => Sys2Proof.Machine.execOraAbs w s
  | .oraIzy b => Sys2Proof.Machine.execOraIzy b s
  | .oraZpx b => Sys2Proof.Machine.execOraZpx b s
  | .oraAby w => Sys2Proof.Machine.execOraAby w s
  | .oraAbx w => Sys2Proof.Machine.execOraAbx w s
  | .eorIzx b => Sys2Proof.Machine.execEorIzx b s
  | .eorZp b => Sys2Proof.Machine.execEorZp b s
  | .eorImm b => Sys2Proof.Machine.execEorImm b s
  | .eorAbs w => Sys2Proof.Machine.execEorAbs w s
  | .eorIzy b => Sys2Proof.Machine.execEorIzy b s
  | .eorZpx b => Sys2Proof.Machine.execEorZpx b s
  | .eorAby w => Sys2Proof.Machine.execEorAby w s
  | .eorAbx w => Sys2Proof.Machine.execEorAbx w s
  | .cmpIzx b => Sys2Proof.Machine.execCmpIzx b s
  | .cmpZp b => Sys2Proof.Machine.execCmpZp b s
  | .cmpImm b => Sys2Proof.Machine.execCmpImm b s
  | .cmpAbs w => Sys2Proof.Machine.execCmpAbs w s
  | .cmpIzy b => Sys2Proof.Machine.execCmpIzy b s
  | .cmpZpx b => Sys2Proof.Machine.execCmpZpx b s
  | .cmpAby w => Sys2Proof.Machine.execCmpAby w s
  | .cmpAbx w => Sys2Proof.Machine.execCmpAbx w s
  | .cpxImm b => Sys2Proof.Machine.execCpxImm b s
  | .cpxZp b => Sys2Proof.Machine.execCpxZp b s
  | .cpxAbs w => Sys2Proof.Machine.execCpxAbs w s
  | .cpyImm b => Sys2Proof.Machine.execCpyImm b s
  | .cpyZp b => Sys2Proof.Machine.execCpyZp b s
  | .cpyAbs w => Sys2Proof.Machine.execCpyAbs w s
  | .bitZp b => Sys2Proof.Machine.execBitZp b s
  | .bitAbs w => Sys2Proof.Machine.execBitAbs w s
  | .incZp b => Sys2Proof.Machine.execIncZp b s
  | .incAbs w => Sys2Proof.Machine.execIncAbs w s
  | .incZpx b => Sys2Proof.Machine.execIncZpx b s
  | .incAbx w => Sys2Proof.Machine.execIncAbx w s
  | .decZp b => Sys2Proof.Machine.execDecZp b s
  | .decAbs w => Sys2Proof.Machine.execDecAbs w s
  | .decZpx b => Sys2Proof.Machine.execDecZpx b s
  | .decAbx w => Sys2Proof.Machine.execDecAbx w s
  | .inx => Sys2Proof.Machine.execInx s
  | .iny => Sys2Proof.Machine.execIny s
  | .dex => Sys2Proof.Machine.execDex s
  | .dey => Sys2Proof.Machine.execDey s
  -- Shift
  | .aslZp b => Sys2Proof.Machine.execAslZp b s
  | .aslAcc => Sys2Proof.Machine.execAslAcc s
  | .aslAbs w => Sys2Proof.Machine.execAslAbs w s
  | .aslZpx b => Sys2Proof.Machine.execAslZpx b s
  | .aslAbx w => Sys2Proof.Machine.execAslAbx w s
  | .lsrZp b => Sys2Proof.Machine.execLsrZp b s
  | .lsrAcc => Sys2Proof.Machine.execLsrAcc s
  | .lsrAbs w => Sys2Proof.Machine.execLsrAbs w s
  | .lsrZpx b => Sys2Proof.Machine.execLsrZpx b s
  | .lsrAbx w => Sys2Proof.Machine.execLsrAbx w s
  | .rolZp b => Sys2Proof.Machine.execRolZp b s
  | .rolAcc => Sys2Proof.Machine.execRolAcc s
  | .rolAbs w => Sys2Proof.Machine.execRolAbs w s
  | .rolZpx b => Sys2Proof.Machine.execRolZpx b s
  | .rolAbx w => Sys2Proof.Machine.execRolAbx w s
  | .rorZp b => Sys2Proof.Machine.execRorZp b s
  | .rorAcc => Sys2Proof.Machine.execRorAcc s
  | .rorAbs w => Sys2Proof.Machine.execRorAbs w s
  | .rorZpx b => Sys2Proof.Machine.execRorZpx b s
  | .rorAbx w => Sys2Proof.Machine.execRorAbx w s
  -- Control
  | .jmpAbs w => Sys2Proof.Machine.execJmpAbs w s
  | .jmpInd w => Sys2Proof.Machine.execJmpInd w s
  | .jsr w => Sys2Proof.Machine.execJsr w s
  | .rts => Sys2Proof.Machine.execRts s
  | .bcc b => Sys2Proof.Machine.execBcc b s
  | .bcs b => Sys2Proof.Machine.execBcs b s
  | .beq b => Sys2Proof.Machine.execBeq b s
  | .bne b => Sys2Proof.Machine.execBne b s
  | .bmi b => Sys2Proof.Machine.execBmi b s
  | .bpl b => Sys2Proof.Machine.execBpl b s
  | .bvc b => Sys2Proof.Machine.execBvc b s
  | .bvs b => Sys2Proof.Machine.execBvs b s
  -- System
  | .pha => Sys2Proof.Machine.execPha s
  | .php => Sys2Proof.Machine.execPhp s
  | .pla => Sys2Proof.Machine.execPla s
  | .plp => Sys2Proof.Machine.execPlp s
  | .clc => Sys2Proof.Machine.execClc s
  | .sec => Sys2Proof.Machine.execSec s
  | .cli => Sys2Proof.Machine.execCli s
  | .sei => Sys2Proof.Machine.execSei s
  | .clv => Sys2Proof.Machine.execClv s
  | .cld => Sys2Proof.Machine.execCld s
  | .sed => Sys2Proof.Machine.execSed s
  | .nop => Sys2Proof.Machine.execNop s
  | .brk => Sys2Proof.Machine.execBrk s
  | .rti => Sys2Proof.Machine.execRti s
  -- Undocumented
  | .laxIzx b => Sys2Proof.Machine.execLaxIzx b s
  | .laxZp b => Sys2Proof.Machine.execLaxZp b s
  | .laxAbs w => Sys2Proof.Machine.execLaxAbs w s
  | .laxIzy b => Sys2Proof.Machine.execLaxIzy b s
  | .laxZpy b => Sys2Proof.Machine.execLaxZpy b s
  | .laxAby w => Sys2Proof.Machine.execLaxAby w s
  | .saxIzx b => Sys2Proof.Machine.execSaxIzx b s
  | .saxZp b => Sys2Proof.Machine.execSaxZp b s
  | .saxAbs w => Sys2Proof.Machine.execSaxAbs w s
  | .saxZpy b => Sys2Proof.Machine.execSaxZpy b s
  | .dcpIzx b => Sys2Proof.Machine.execDcpIzx b s
  | .dcpZp b => Sys2Proof.Machine.execDcpZp b s
  | .dcpAbs w => Sys2Proof.Machine.execDcpAbs w s
  | .dcpIzy b => Sys2Proof.Machine.execDcpIzy b s
  | .dcpZpx b => Sys2Proof.Machine.execDcpZpx b s
  | .dcpAby w => Sys2Proof.Machine.execDcpAby w s
  | .dcpAbx w => Sys2Proof.Machine.execDcpAbx w s
  | .isbIzx b => Sys2Proof.Machine.execIsbIzx b s
  | .isbZp b => Sys2Proof.Machine.execIsbZp b s
  | .isbAbs w => Sys2Proof.Machine.execIsbAbs w s
  | .isbIzy b => Sys2Proof.Machine.execIsbIzy b s
  | .isbZpx b => Sys2Proof.Machine.execIsbZpx b s
  | .isbAby w => Sys2Proof.Machine.execIsbAby w s
  | .isbAbx w => Sys2Proof.Machine.execIsbAbx w s
  | .sloIzx b => Sys2Proof.Machine.execSloIzx b s
  | .sloZp b => Sys2Proof.Machine.execSloZp b s
  | .sloAbs w => Sys2Proof.Machine.execSloAbs w s
  | .sloIzy b => Sys2Proof.Machine.execSloIzy b s
  | .sloZpx b => Sys2Proof.Machine.execSloZpx b s
  | .sloAby w => Sys2Proof.Machine.execSloAby w s
  | .sloAbx w => Sys2Proof.Machine.execSloAbx w s
  | .rlaIzx b => Sys2Proof.Machine.execRlaIzx b s
  | .rlaZp b => Sys2Proof.Machine.execRlaZp b s
  | .rlaAbs w => Sys2Proof.Machine.execRlaAbs w s
  | .rlaIzy b => Sys2Proof.Machine.execRlaIzy b s
  | .rlaZpx b => Sys2Proof.Machine.execRlaZpx b s
  | .rlaAby w => Sys2Proof.Machine.execRlaAby w s
  | .rlaAbx w => Sys2Proof.Machine.execRlaAbx w s
  | .sreIzx b => Sys2Proof.Machine.execSreIzx b s
  | .sreZp b => Sys2Proof.Machine.execSreZp b s
  | .sreAbs w => Sys2Proof.Machine.execSreAbs w s
  | .sreIzy b => Sys2Proof.Machine.execSreIzy b s
  | .sreZpx b => Sys2Proof.Machine.execSreZpx b s
  | .sreAby w => Sys2Proof.Machine.execSreAby w s
  | .sreAbx w => Sys2Proof.Machine.execSreAbx w s
  | .rraIzx b => Sys2Proof.Machine.execRraIzx b s
  | .rraZp b => Sys2Proof.Machine.execRraZp b s
  | .rraAbs w => Sys2Proof.Machine.execRraAbs w s
  | .rraIzy b => Sys2Proof.Machine.execRraIzy b s
  | .rraZpx b => Sys2Proof.Machine.execRraZpx b s
  | .rraAby w => Sys2Proof.Machine.execRraAby w s
  | .rraAbx w => Sys2Proof.Machine.execRraAbx w s
  | .nopZp04 b => Sys2Proof.Machine.execNopZp04 b s
  | .nopAbs0C w => Sys2Proof.Machine.execNopAbs0C w s
  | .nopZpx14 b => Sys2Proof.Machine.execNopZpx14 b s
  | .nop1A => Sys2Proof.Machine.execNop1A s
  | .nopAbx1C w => Sys2Proof.Machine.execNopAbx1C w s
  | .nopZpx34 b => Sys2Proof.Machine.execNopZpx34 b s
  | .nop3A => Sys2Proof.Machine.execNop3A s
  | .nopAbx3C w => Sys2Proof.Machine.execNopAbx3C w s
  | .nopZp44 b => Sys2Proof.Machine.execNopZp44 b s
  | .nopZpx54 b => Sys2Proof.Machine.execNopZpx54 b s
  | .nop5A => Sys2Proof.Machine.execNop5A s
  | .nopAbx5C w => Sys2Proof.Machine.execNopAbx5C w s
  | .nopZp64 b => Sys2Proof.Machine.execNopZp64 b s
  | .nopZpx74 b => Sys2Proof.Machine.execNopZpx74 b s
  | .nop7A => Sys2Proof.Machine.execNop7A s
  | .nopAbx7C w => Sys2Proof.Machine.execNopAbx7C w s
  | .nopImm80 b => Sys2Proof.Machine.execNopImm80 b s
  | .nopZpxD4 b => Sys2Proof.Machine.execNopZpxD4 b s
  | .nopDA => Sys2Proof.Machine.execNopDA s
  | .nopAbxDC w => Sys2Proof.Machine.execNopAbxDC w s
  | .nopZpxF4 b => Sys2Proof.Machine.execNopZpxF4 b s
  | .nopFA => Sys2Proof.Machine.execNopFA s
  | .nopAbxFC w => Sys2Proof.Machine.execNopAbxFC w s
  | .sbcImmEB b => Sys2Proof.Machine.execSbcImmEB b s
  | .unk02 => Sys2Proof.Machine.execUnk02 s
  | .unk0B => Sys2Proof.Machine.execUnk0B s
  | .unk12 => Sys2Proof.Machine.execUnk12 s
  | .unk22 => Sys2Proof.Machine.execUnk22 s
  | .unk2B => Sys2Proof.Machine.execUnk2B s
  | .unk32 => Sys2Proof.Machine.execUnk32 s
  | .unk42 => Sys2Proof.Machine.execUnk42 s
  | .unk4B => Sys2Proof.Machine.execUnk4B s
  | .unk52 => Sys2Proof.Machine.execUnk52 s
  | .unk62 => Sys2Proof.Machine.execUnk62 s
  | .unk6B => Sys2Proof.Machine.execUnk6B s
  | .unk72 => Sys2Proof.Machine.execUnk72 s
  | .unk82 => Sys2Proof.Machine.execUnk82 s
  | .unk89 => Sys2Proof.Machine.execUnk89 s
  | .unk8B => Sys2Proof.Machine.execUnk8B s
  | .unk92 => Sys2Proof.Machine.execUnk92 s
  | .unk93 => Sys2Proof.Machine.execUnk93 s
  | .unk9B => Sys2Proof.Machine.execUnk9B s
  | .unk9C => Sys2Proof.Machine.execUnk9C s
  | .unk9E => Sys2Proof.Machine.execUnk9E s
  | .unk9F => Sys2Proof.Machine.execUnk9F s
  | .unkAB => Sys2Proof.Machine.execUnkAB s
  | .unkB2 => Sys2Proof.Machine.execUnkB2 s
  | .unkBB => Sys2Proof.Machine.execUnkBB s
  | .unkC2 => Sys2Proof.Machine.execUnkC2 s
  | .unkCB => Sys2Proof.Machine.execUnkCB s
  | .unkD2 => Sys2Proof.Machine.execUnkD2 s
  | .unkE2 => Sys2Proof.Machine.execUnkE2 s
  | .unkF2 => Sys2Proof.Machine.execUnkF2 s

end Sys2Proof.Machine
end

