-- ==== Sys2Proof/Machine/Fetch.lean ====
section
/-! DEFINITION. Fetching an instruction: one read cycle for the opcode at `pc0`, one for each operand byte at
the addresses that follow, mod 65536 (spec/30_encoding.md R60, R61; spec/20_memory.md R51). Every rule reads an
instruction's operand bytes before any other cycle, so the whole instruction is fetched before it runs (log 26). -/

namespace Sys2Proof.Machine

/-- The instruction at `PC` and the state after its fetch cycles; `pc` still holds `pc0`. Fetches are ordinary
read cycles, with the side effects of the addresses read (R51, D22). -/
def fetch (s : State) : Instr × State :=
  let op := s.read s.pc
  match shapeOf op.1 with
  | .one i => (i, op.2)
  | .two mk =>
    let b1 := op.2.read (s.pc + 1)
    (mk b1.1, b1.2)
  | .three mk =>
    let b1 := op.2.read (s.pc + 1)
    let b2 := b1.2.read (s.pc + 2)
    (mk (wordOf b1.1 b2.1), b2.2)

/-- The NMI taken off the wire: `pending_nmi <- 0` (R220, R268). -/
def State.clearNmi (s : State) : State := { s with ppu := { s.ppu with pendingNmi := false } }

/-- Whether an instruction's three bytes at `pc` can be placed: plain storage, see `State.byteAt`. -/
def fetchPlaceable (s : State) (pc : Word) : Bool :=
  (s.byteAt pc).isSome && (s.byteAt (pc + 1)).isSome && (s.byteAt (pc + 2)).isSome

/-- Where a word is placed for the next step: at `PC`, or at $0000 in work RAM where the bytes at `PC` are no
plain storage (log 28). -/
def fetchSite (s : State) : Word := if fetchPlaceable s s.pc then s.pc else 0

/-- Three bytes placed at the fetch site, `PC` there, and no NMI pending, so that the next step fetches them. -/
def State.placeFetch (s : State) (b0 b1 b2 : Byte) : State :=
  let pc := fetchSite s
  let placed := ((s.place pc b0).place (pc + 1) b1).place (pc + 2) b2
  ({ placed with pc := pc } : State).clearNmi

end Sys2Proof.Machine
end

