-- ==== Sys2Proof/Machine/Step.lean ====
section
/-! DEFINITION. The step (spec/60_exceptions.md R220) and the host's way of putting one instruction where the
next step fetches it. -/

namespace Sys2Proof.Machine

/-- `step`: a pending NMI is taken and no instruction runs; otherwise one instruction is fetched and executed
(R220). -/
def step (s : State) : Host.Outcome State Fault Refusal :=
  if s.ppu.pendingNmi then .next s.clearNmi.nmiService
  else exec (fetch s).1 (fetch s).2

/-- `s` with the instruction whose bits are `w`, numbered as spec/opcode_table.json numbers them, stored where
the next step fetches; bits above `nbits` are 0 (logs 3, 28). -/
def State.withFetchWord (s : State) (nbits w : Nat) : State :=
  s.placeFetch (tableByte (w % 2 ^ nbits) 0) (tableByte (w % 2 ^ nbits) 1) (tableByte (w % 2 ^ nbits) 2)

end Sys2Proof.Machine
end

