-- ==== Sys2Proof/Machine/Forms.lean ====
section
/-! DEFINITION. Which instruction each mnemonic is in each addressing mode, and the documented cycle counts
(spec/30_encoding.md R76): the words the claims quantify with. Nothing here gives an instruction its meaning. -/

namespace Sys2Proof.Machine

/-! ### The addressing modes and the encodings -/

/-- The addressing modes of a memory operand (R64 to R72). -/
inductive Mode where
  | imm
  | zp
  | zpx
  | zpy
  | abs
  | abx
  | aby
  | izx
  | izy
  deriving DecidableEq, Repr

/-- The mode of an operand. -/
def Operand.mode (o : Operand) : Mode :=
  match o with
  | .imm _ => .imm
  | .zp _ => .zp
  | .zpx _ => .zpx
  | .zpy _ => .zpy
  | .abs _ => .abs
  | .abx _ => .abx
  | .aby _ => .aby
  | .izx _ => .izx
  | .izy _ => .izy

/-- The bytes of an operand in the instruction, the low byte of a word first (R42, R60). -/
def Operand.bytes (o : Operand) : List Byte :=
  match o with
  | .imm b | .zp b | .zpx b | .zpy b | .izx b | .izy b => [b]
  | .abs w | .abx w | .aby w => [loByte w, hiByte w]

/-- `form` is the mnemonic whose encodings are `modes`, mode with opcode byte, and it has no other (R76): with operand
`o` it is the instruction whose bytes are the opcode of `o`'s mode and then the operand's bytes. -/
def EncodedBy (form : Operand → Option Instr) (modes : List (Mode × Byte)) : Prop :=
  ∀ o i, form o = some i ↔ ∃ op, (o.mode, op) ∈ modes ∧ encode i = op :: o.bytes

/-! ### The forms of each mnemonic -/

/-- The encodings of ADC with a memory operand (R76). -/
def adcForm (o : Operand) : Option Instr :=
  match o with
  | .imm b => some (.adcImm b)
  | .zp b => some (.adcZp b)
  | .zpx b => some (.adcZpx b)
  | .abs w => some (.adcAbs w)
  | .abx w => some (.adcAbx w)
  | .aby w => some (.adcAby w)
  | .izx b => some (.adcIzx b)
  | .izy b => some (.adcIzy b)
  | .zpy _ => none

/-- The encodings of AND with a memory operand (R76). -/
def andForm (o : Operand) : Option Instr :=
  match o with
  | .imm b => some (.andImm b)
  | .zp b => some (.andZp b)
  | .zpx b => some (.andZpx b)
  | .abs w => some (.andAbs w)
  | .abx w => some (.andAbx w)
  | .aby w => some (.andAby w)
  | .izx b => some (.andIzx b)
  | .izy b => some (.andIzy b)
  | .zpy _ => none

/-- The encodings of ASL with a memory operand (R76). -/
def aslForm (o : Operand) : Option Instr :=
  match o with
  | .zp b => some (.aslZp b)
  | .zpx b => some (.aslZpx b)
  | .abs w => some (.aslAbs w)
  | .abx w => some (.aslAbx w)
  | .imm _ | .zpy _ | .aby _ | .izx _ | .izy _ => none

/-- The encodings of BIT with a memory operand (R76). -/
def bitForm (o : Operand) : Option Instr :=
  match o with
  | .zp b => some (.bitZp b)
  | .abs w => some (.bitAbs w)
  | .imm _ | .zpx _ | .zpy _ | .abx _ | .aby _ | .izx _ | .izy _ => none

/-- The encodings of CMP with a memory operand (R76). -/
def cmpForm (o : Operand) : Option Instr :=
  match o with
  | .imm b => some (.cmpImm b)
  | .zp b => some (.cmpZp b)
  | .zpx b => some (.cmpZpx b)
  | .abs w => some (.cmpAbs w)
  | .abx w => some (.cmpAbx w)
  | .aby w => some (.cmpAby w)
  | .izx b => some (.cmpIzx b)
  | .izy b => some (.cmpIzy b)
  | .zpy _ => none

/-- The encodings of CPX with a memory operand (R76). -/
def cpxForm (o : Operand) : Option Instr :=
  match o with
  | .imm b => some (.cpxImm b)
  | .zp b => some (.cpxZp b)
  | .abs w => some (.cpxAbs w)
  | .zpx _ | .zpy _ | .abx _ | .aby _ | .izx _ | .izy _ => none

/-- The encodings of CPY with a memory operand (R76). -/
def cpyForm (o : Operand) : Option Instr :=
  match o with
  | .imm b => some (.cpyImm b)
  | .zp b => some (.cpyZp b)
  | .abs w => some (.cpyAbs w)
  | .zpx _ | .zpy _ | .abx _ | .aby _ | .izx _ | .izy _ => none

/-- The encodings of DEC with a memory operand (R76). -/
def decForm (o : Operand) : Option Instr :=
  match o with
  | .zp b => some (.decZp b)
  | .zpx b => some (.decZpx b)
  | .abs w => some (.decAbs w)
  | .abx w => some (.decAbx w)
  | .imm _ | .zpy _ | .aby _ | .izx _ | .izy _ => none

/-- The encodings of EOR with a memory operand (R76). -/
def eorForm (o : Operand) : Option Instr :=
  match o with
  | .imm b => some (.eorImm b)
  | .zp b => some (.eorZp b)
  | .zpx b => some (.eorZpx b)
  | .abs w => some (.eorAbs w)
  | .abx w => some (.eorAbx w)
  | .aby w => some (.eorAby w)
  | .izx b => some (.eorIzx b)
  | .izy b => some (.eorIzy b)
  | .zpy _ => none

/-- The encodings of INC with a memory operand (R76). -/
def incForm (o : Operand) : Option Instr :=
  match o with
  | .zp b => some (.incZp b)
  | .zpx b => some (.incZpx b)
  | .abs w => some (.incAbs w)
  | .abx w => some (.incAbx w)
  | .imm _ | .zpy _ | .aby _ | .izx _ | .izy _ => none

/-- The encodings of LDA with a memory operand (R76). -/
def ldaForm (o : Operand) : Option Instr :=
  match o with
  | .imm b => some (.ldaImm b)
  | .zp b => some (.ldaZp b)
  | .zpx b => some (.ldaZpx b)
  | .abs w => some (.ldaAbs w)
  | .abx w => some (.ldaAbx w)
  | .aby w => some (.ldaAby w)
  | .izx b => some (.ldaIzx b)
  | .izy b => some (.ldaIzy b)
  | .zpy _ => none

/-- The encodings of LDX with a memory operand (R76). -/
def ldxForm (o : Operand) : Option Instr :=
  match o with
  | .imm b => some (.ldxImm b)
  | .zp b => some (.ldxZp b)
  | .zpy b => some (.ldxZpy b)
  | .abs w => some (.ldxAbs w)
  | .aby w => some (.ldxAby w)
  | .zpx _ | .abx _ | .izx _ | .izy _ => none

/-- The encodings of LDY with a memory operand (R76). -/
def ldyForm (o : Operand) : Option Instr :=
  match o with
  | .imm b => some (.ldyImm b)
  | .zp b => some (.ldyZp b)
  | .zpx b => some (.ldyZpx b)
  | .abs w => some (.ldyAbs w)
  | .abx w => some (.ldyAbx w)
  | .zpy _ | .aby _ | .izx _ | .izy _ => none

/-- The encodings of LSR with a memory operand (R76). -/
def lsrForm (o : Operand) : Option Instr :=
  match o with
  | .zp b => some (.lsrZp b)
  | .zpx b => some (.lsrZpx b)
  | .abs w => some (.lsrAbs w)
  | .abx w => some (.lsrAbx w)
  | .imm _ | .zpy _ | .aby _ | .izx _ | .izy _ => none

/-- The encodings of ORA with a memory operand (R76). -/
def oraForm (o : Operand) : Option Instr :=
  match o with
  | .imm b => some (.oraImm b)
  | .zp b => some (.oraZp b)
  | .zpx b => some (.oraZpx b)
  | .abs w => some (.oraAbs w)
  | .abx w => some (.oraAbx w)
  | .aby w => some (.oraAby w)
  | .izx b => some (.oraIzx b)
  | .izy b => some (.oraIzy b)
  | .zpy _ => none

/-- The encodings of ROL with a memory operand (R76). -/
def rolForm (o : Operand) : Option Instr :=
  match o with
  | .zp b => some (.rolZp b)
  | .zpx b => some (.rolZpx b)
  | .abs w => some (.rolAbs w)
  | .abx w => some (.rolAbx w)
  | .imm _ | .zpy _ | .aby _ | .izx _ | .izy _ => none

/-- The encodings of ROR with a memory operand (R76). -/
def rorForm (o : Operand) : Option Instr :=
  match o with
  | .zp b => some (.rorZp b)
  | .zpx b => some (.rorZpx b)
  | .abs w => some (.rorAbs w)
  | .abx w => some (.rorAbx w)
  | .imm _ | .zpy _ | .aby _ | .izx _ | .izy _ => none

/-- The encodings of SBC with a memory operand (R76). -/
def sbcForm (o : Operand) : Option Instr :=
  match o with
  | .imm b => some (.sbcImm b)
  | .zp b => some (.sbcZp b)
  | .zpx b => some (.sbcZpx b)
  | .abs w => some (.sbcAbs w)
  | .abx w => some (.sbcAbx w)
  | .aby w => some (.sbcAby w)
  | .izx b => some (.sbcIzx b)
  | .izy b => some (.sbcIzy b)
  | .zpy _ => none

/-- The encodings of STA with a memory operand (R76). -/
def staForm (o : Operand) : Option Instr :=
  match o with
  | .zp b => some (.staZp b)
  | .zpx b => some (.staZpx b)
  | .abs w => some (.staAbs w)
  | .abx w => some (.staAbx w)
  | .aby w => some (.staAby w)
  | .izx b => some (.staIzx b)
  | .izy b => some (.staIzy b)
  | .imm _ | .zpy _ => none

/-- The encodings of STX with a memory operand (R76). -/
def stxForm (o : Operand) : Option Instr :=
  match o with
  | .zp b => some (.stxZp b)
  | .zpy b => some (.stxZpy b)
  | .abs w => some (.stxAbs w)
  | .imm _ | .zpx _ | .abx _ | .aby _ | .izx _ | .izy _ => none

/-- The encodings of STY with a memory operand (R76). -/
def styForm (o : Operand) : Option Instr :=
  match o with
  | .zp b => some (.styZp b)
  | .zpx b => some (.styZpx b)
  | .abs w => some (.styAbs w)
  | .imm _ | .zpy _ | .abx _ | .aby _ | .izx _ | .izy _ => none

/-- The encodings of *DCP with a memory operand (R76). -/
def dcpForm (o : Operand) : Option Instr :=
  match o with
  | .zp b => some (.dcpZp b)
  | .zpx b => some (.dcpZpx b)
  | .abs w => some (.dcpAbs w)
  | .abx w => some (.dcpAbx w)
  | .aby w => some (.dcpAby w)
  | .izx b => some (.dcpIzx b)
  | .izy b => some (.dcpIzy b)
  | .imm _ | .zpy _ => none

/-- The encodings of *ISB with a memory operand (R76). -/
def isbForm (o : Operand) : Option Instr :=
  match o with
  | .zp b => some (.isbZp b)
  | .zpx b => some (.isbZpx b)
  | .abs w => some (.isbAbs w)
  | .abx w => some (.isbAbx w)
  | .aby w => some (.isbAby w)
  | .izx b => some (.isbIzx b)
  | .izy b => some (.isbIzy b)
  | .imm _ | .zpy _ => none

/-- The encodings of *LAX with a memory operand (R76). -/
def laxForm (o : Operand) : Option Instr :=
  match o with
  | .zp b => some (.laxZp b)
  | .zpy b => some (.laxZpy b)
  | .abs w => some (.laxAbs w)
  | .aby w => some (.laxAby w)
  | .izx b => some (.laxIzx b)
  | .izy b => some (.laxIzy b)
  | .imm _ | .zpx _ | .abx _ => none

/-- The encodings of *RLA with a memory operand (R76). -/
def rlaForm (o : Operand) : Option Instr :=
  match o with
  | .zp b => some (.rlaZp b)
  | .zpx b => some (.rlaZpx b)
  | .abs w => some (.rlaAbs w)
  | .abx w => some (.rlaAbx w)
  | .aby w => some (.rlaAby w)
  | .izx b => some (.rlaIzx b)
  | .izy b => some (.rlaIzy b)
  | .imm _ | .zpy _ => none

/-- The encodings of *RRA with a memory operand (R76). -/
def rraForm (o : Operand) : Option Instr :=
  match o with
  | .zp b => some (.rraZp b)
  | .zpx b => some (.rraZpx b)
  | .abs w => some (.rraAbs w)
  | .abx w => some (.rraAbx w)
  | .aby w => some (.rraAby w)
  | .izx b => some (.rraIzx b)
  | .izy b => some (.rraIzy b)
  | .imm _ | .zpy _ => none

/-- The encodings of *SAX with a memory operand (R76). -/
def saxForm (o : Operand) : Option Instr :=
  match o with
  | .zp b => some (.saxZp b)
  | .zpy b => some (.saxZpy b)
  | .abs w => some (.saxAbs w)
  | .izx b => some (.saxIzx b)
  | .imm _ | .zpx _ | .abx _ | .aby _ | .izy _ => none

/-- The encodings of *SLO with a memory operand (R76). -/
def sloForm (o : Operand) : Option Instr :=
  match o with
  | .zp b => some (.sloZp b)
  | .zpx b => some (.sloZpx b)
  | .abs w => some (.sloAbs w)
  | .abx w => some (.sloAbx w)
  | .aby w => some (.sloAby w)
  | .izx b => some (.sloIzx b)
  | .izy b => some (.sloIzy b)
  | .imm _ | .zpy _ => none

/-- The encodings of *SRE with a memory operand (R76). -/
def sreForm (o : Operand) : Option Instr :=
  match o with
  | .zp b => some (.sreZp b)
  | .zpx b => some (.sreZpx b)
  | .abs w => some (.sreAbs w)
  | .abx w => some (.sreAbx w)
  | .aby w => some (.sreAby w)
  | .izx b => some (.sreIzx b)
  | .izy b => some (.sreIzy b)
  | .imm _ | .zpy _ => none

/-- The encodings of the *NOP variants with an operand (R209, R210). -/
def nopForms (o : Operand) : List Instr :=
  match o with
  | .imm b => [.nopImm80 b]
  | .zp b => [.nopZp04 b, .nopZp44 b, .nopZp64 b]
  | .zpx b => [.nopZpx14 b, .nopZpx34 b, .nopZpx54 b, .nopZpx74 b, .nopZpxD4 b, .nopZpxF4 b]
  | .abs w => [.nopAbs0C w]
  | .abx w => [.nopAbx1C w, .nopAbx3C w, .nopAbx5C w, .nopAbx7C w, .nopAbxDC w, .nopAbxFC w]
  | .zpy _ | .aby _ | .izx _ | .izy _ => []

/-- NOP and the six implied *NOP variants (R191, R208). -/
def impliedNops : List Instr :=
  [.nop, .nop1A, .nop3A, .nop5A, .nop7A, .nopDA, .nopFA]

/-- The unknown opcodes, each with its byte (R77). -/
def unknownForms : List (Instr × Byte) :=
  [(.unk02, 0x02), (.unk0B, 0x0B), (.unk12, 0x12), (.unk22, 0x22), (.unk2B, 0x2B), (.unk32, 0x32),
   (.unk42, 0x42), (.unk4B, 0x4B), (.unk52, 0x52), (.unk62, 0x62), (.unk6B, 0x6B), (.unk72, 0x72),
   (.unk82, 0x82), (.unk89, 0x89), (.unk8B, 0x8B), (.unk92, 0x92), (.unk93, 0x93), (.unk9B, 0x9B),
   (.unk9C, 0x9C), (.unk9E, 0x9E), (.unk9F, 0x9F), (.unkAB, 0xAB), (.unkB2, 0xB2), (.unkBB, 0xBB),
   (.unkC2, 0xC2), (.unkCB, 0xCB), (.unkD2, 0xD2), (.unkE2, 0xE2), (.unkF2, 0xF2)]

/-- The memory operand of an instruction: the addressing mode with its operand bytes (R64 to R72); `none` where the
instruction has none, and for branches, JMP and JSR, whose operand is a target. -/
def instrOperand (i : Instr) : Option Operand :=
  match i with
  | .adcAbs w => some (.abs w)
  | .adcAbx w => some (.abx w)
  | .adcAby w => some (.aby w)
  | .adcImm b => some (.imm b)
  | .adcIzx b => some (.izx b)
  | .adcIzy b => some (.izy b)
  | .adcZp b => some (.zp b)
  | .adcZpx b => some (.zpx b)
  | .andAbs w => some (.abs w)
  | .andAbx w => some (.abx w)
  | .andAby w => some (.aby w)
  | .andImm b => some (.imm b)
  | .andIzx b => some (.izx b)
  | .andIzy b => some (.izy b)
  | .andZp b => some (.zp b)
  | .andZpx b => some (.zpx b)
  | .aslAbs w => some (.abs w)
  | .aslAbx w => some (.abx w)
  | .aslZp b => some (.zp b)
  | .aslZpx b => some (.zpx b)
  | .bitAbs w => some (.abs w)
  | .bitZp b => some (.zp b)
  | .cmpAbs w => some (.abs w)
  | .cmpAbx w => some (.abx w)
  | .cmpAby w => some (.aby w)
  | .cmpImm b => some (.imm b)
  | .cmpIzx b => some (.izx b)
  | .cmpIzy b => some (.izy b)
  | .cmpZp b => some (.zp b)
  | .cmpZpx b => some (.zpx b)
  | .cpxAbs w => some (.abs w)
  | .cpxImm b => some (.imm b)
  | .cpxZp b => some (.zp b)
  | .cpyAbs w => some (.abs w)
  | .cpyImm b => some (.imm b)
  | .cpyZp b => some (.zp b)
  | .dcpAbs w => some (.abs w)
  | .dcpAbx w => some (.abx w)
  | .dcpAby w => some (.aby w)
  | .dcpIzx b => some (.izx b)
  | .dcpIzy b => some (.izy b)
  | .dcpZp b => some (.zp b)
  | .dcpZpx b => some (.zpx b)
  | .decAbs w => some (.abs w)
  | .decAbx w => some (.abx w)
  | .decZp b => some (.zp b)
  | .decZpx b => some (.zpx b)
  | .eorAbs w => some (.abs w)
  | .eorAbx w => some (.abx w)
  | .eorAby w => some (.aby w)
  | .eorImm b => some (.imm b)
  | .eorIzx b => some (.izx b)
  | .eorIzy b => some (.izy b)
  | .eorZp b => some (.zp b)
  | .eorZpx b => some (.zpx b)
  | .incAbs w => some (.abs w)
  | .incAbx w => some (.abx w)
  | .incZp b => some (.zp b)
  | .incZpx b => some (.zpx b)
  | .isbAbs w => some (.abs w)
  | .isbAbx w => some (.abx w)
  | .isbAby w => some (.aby w)
  | .isbIzx b => some (.izx b)
  | .isbIzy b => some (.izy b)
  | .isbZp b => some (.zp b)
  | .isbZpx b => some (.zpx b)
  | .laxAbs w => some (.abs w)
  | .laxAby w => some (.aby w)
  | .laxIzx b => some (.izx b)
  | .laxIzy b => some (.izy b)
  | .laxZp b => some (.zp b)
  | .laxZpy b => some (.zpy b)
  | .ldaAbs w => some (.abs w)
  | .ldaAbx w => some (.abx w)
  | .ldaAby w => some (.aby w)
  | .ldaImm b => some (.imm b)
  | .ldaIzx b => some (.izx b)
  | .ldaIzy b => some (.izy b)
  | .ldaZp b => some (.zp b)
  | .ldaZpx b => some (.zpx b)
  | .ldxAbs w => some (.abs w)
  | .ldxAby w => some (.aby w)
  | .ldxImm b => some (.imm b)
  | .ldxZp b => some (.zp b)
  | .ldxZpy b => some (.zpy b)
  | .ldyAbs w => some (.abs w)
  | .ldyAbx w => some (.abx w)
  | .ldyImm b => some (.imm b)
  | .ldyZp b => some (.zp b)
  | .ldyZpx b => some (.zpx b)
  | .lsrAbs w => some (.abs w)
  | .lsrAbx w => some (.abx w)
  | .lsrZp b => some (.zp b)
  | .lsrZpx b => some (.zpx b)
  | .nopAbs0C w => some (.abs w)
  | .nopAbx1C w => some (.abx w)
  | .nopAbx3C w => some (.abx w)
  | .nopAbx5C w => some (.abx w)
  | .nopAbx7C w => some (.abx w)
  | .nopAbxDC w => some (.abx w)
  | .nopAbxFC w => some (.abx w)
  | .nopImm80 b => some (.imm b)
  | .nopZp04 b => some (.zp b)
  | .nopZp44 b => some (.zp b)
  | .nopZp64 b => some (.zp b)
  | .nopZpx14 b => some (.zpx b)
  | .nopZpx34 b => some (.zpx b)
  | .nopZpx54 b => some (.zpx b)
  | .nopZpx74 b => some (.zpx b)
  | .nopZpxD4 b => some (.zpx b)
  | .nopZpxF4 b => some (.zpx b)
  | .oraAbs w => some (.abs w)
  | .oraAbx w => some (.abx w)
  | .oraAby w => some (.aby w)
  | .oraImm b => some (.imm b)
  | .oraIzx b => some (.izx b)
  | .oraIzy b => some (.izy b)
  | .oraZp b => some (.zp b)
  | .oraZpx b => some (.zpx b)
  | .rlaAbs w => some (.abs w)
  | .rlaAbx w => some (.abx w)
  | .rlaAby w => some (.aby w)
  | .rlaIzx b => some (.izx b)
  | .rlaIzy b => some (.izy b)
  | .rlaZp b => some (.zp b)
  | .rlaZpx b => some (.zpx b)
  | .rolAbs w => some (.abs w)
  | .rolAbx w => some (.abx w)
  | .rolZp b => some (.zp b)
  | .rolZpx b => some (.zpx b)
  | .rorAbs w => some (.abs w)
  | .rorAbx w => some (.abx w)
  | .rorZp b => some (.zp b)
  | .rorZpx b => some (.zpx b)
  | .rraAbs w => some (.abs w)
  | .rraAbx w => some (.abx w)
  | .rraAby w => some (.aby w)
  | .rraIzx b => some (.izx b)
  | .rraIzy b => some (.izy b)
  | .rraZp b => some (.zp b)
  | .rraZpx b => some (.zpx b)
  | .saxAbs w => some (.abs w)
  | .saxIzx b => some (.izx b)
  | .saxZp b => some (.zp b)
  | .saxZpy b => some (.zpy b)
  | .sbcAbs w => some (.abs w)
  | .sbcAbx w => some (.abx w)
  | .sbcAby w => some (.aby w)
  | .sbcImm b => some (.imm b)
  | .sbcImmEB b => some (.imm b)
  | .sbcIzx b => some (.izx b)
  | .sbcIzy b => some (.izy b)
  | .sbcZp b => some (.zp b)
  | .sbcZpx b => some (.zpx b)
  | .sloAbs w => some (.abs w)
  | .sloAbx w => some (.abx w)
  | .sloAby w => some (.aby w)
  | .sloIzx b => some (.izx b)
  | .sloIzy b => some (.izy b)
  | .sloZp b => some (.zp b)
  | .sloZpx b => some (.zpx b)
  | .sreAbs w => some (.abs w)
  | .sreAbx w => some (.abx w)
  | .sreAby w => some (.aby w)
  | .sreIzx b => some (.izx b)
  | .sreIzy b => some (.izy b)
  | .sreZp b => some (.zp b)
  | .sreZpx b => some (.zpx b)
  | .staAbs w => some (.abs w)
  | .staAbx w => some (.abx w)
  | .staAby w => some (.aby w)
  | .staIzx b => some (.izx b)
  | .staIzy b => some (.izy b)
  | .staZp b => some (.zp b)
  | .staZpx b => some (.zpx b)
  | .stxAbs w => some (.abs w)
  | .stxZp b => some (.zp b)
  | .stxZpy b => some (.zpy b)
  | .styAbs w => some (.abs w)
  | .styZp b => some (.zp b)
  | .styZpx b => some (.zpx b)
  | .aslAcc | .bcc _ | .bcs _ | .beq _ | .bmi _ | .bne _ | .bpl _ | .brk
  | .bvc _ | .bvs _ | .clc | .cld | .cli | .clv | .dex | .dey
  | .inx | .iny | .jmpAbs _ | .jmpInd _ | .jsr _ | .lsrAcc | .nop | .nop1A
  | .nop3A | .nop5A | .nop7A | .nopDA | .nopFA | .pha | .php | .pla
  | .plp | .rolAcc | .rorAcc | .rti | .rts | .sec | .sed | .sei
  | .tax | .tay | .tsx | .txa | .txs | .tya | .unk02 | .unk0B
  | .unk12 | .unk22 | .unk2B | .unk32 | .unk42 | .unk4B | .unk52 | .unk62
  | .unk6B | .unk72 | .unk82 | .unk89 | .unk8B | .unk92 | .unk93 | .unk9B
  | .unk9C | .unk9E | .unk9F | .unkAB | .unkB2 | .unkBB | .unkC2 | .unkCB
  | .unkD2 | .unkE2 | .unkF2 => none

/-- The mnemonics that store to their memory operand: the stores and the read-modify-writes (R75). -/
def storingMnemonics : List Mnemonic :=
  [.sta, .stx, .sty, .uSax, .inc, .dec, .asl, .lsr, .rol, .ror, .uDcp, .uIsb, .uSlo, .uRla, .uSre, .uRra]

/-- The memory operand an instruction stores to (R75); the accumulator forms of the shifts store to none. -/
def storedOperand (i : Instr) : Option Operand := if i.mnemonic ∈ storingMnemonics then instrOperand i else none

/-! ### The documented cycle counts -/

/-- What may be added to the base count of an opcode: nothing, `+p`, or `+t+p` (R76). -/
inductive Extra where
  | none
  | page
  | branch
  deriving DecidableEq, Repr

/-- Row 0x of the cycle counts (R76; an unknown opcode takes 1, R212). -/
def cycleRow0 : List (Nat × Extra) :=
  [(7, .none), (6, .none), (1, .none), (8, .none), (3, .none), (3, .none), (5, .none), (5, .none),
   (3, .none), (2, .none), (2, .none), (1, .none), (4, .none), (4, .none), (6, .none), (6, .none)]

/-- Row 1x of the cycle counts (R76; an unknown opcode takes 1, R212). -/
def cycleRow1 : List (Nat × Extra) :=
  [(2, .branch), (5, .page), (1, .none), (8, .none), (4, .none), (4, .none), (6, .none), (6, .none),
   (2, .none), (4, .page), (2, .none), (7, .none), (4, .page), (4, .page), (7, .none), (7, .none)]

/-- Row 2x of the cycle counts (R76; an unknown opcode takes 1, R212). -/
def cycleRow2 : List (Nat × Extra) :=
  [(6, .none), (6, .none), (1, .none), (8, .none), (3, .none), (3, .none), (5, .none), (5, .none),
   (4, .none), (2, .none), (2, .none), (1, .none), (4, .none), (4, .none), (6, .none), (6, .none)]

/-- Row 3x of the cycle counts (R76; an unknown opcode takes 1, R212). -/
def cycleRow3 : List (Nat × Extra) :=
  [(2, .branch), (5, .page), (1, .none), (8, .none), (4, .none), (4, .none), (6, .none), (6, .none),
   (2, .none), (4, .page), (2, .none), (7, .none), (4, .page), (4, .page), (7, .none), (7, .none)]

/-- Row 4x of the cycle counts (R76; an unknown opcode takes 1, R212). -/
def cycleRow4 : List (Nat × Extra) :=
  [(6, .none), (6, .none), (1, .none), (8, .none), (3, .none), (3, .none), (5, .none), (5, .none),
   (3, .none), (2, .none), (2, .none), (1, .none), (3, .none), (4, .none), (6, .none), (6, .none)]

/-- Row 5x of the cycle counts (R76; an unknown opcode takes 1, R212). -/
def cycleRow5 : List (Nat × Extra) :=
  [(2, .branch), (5, .page), (1, .none), (8, .none), (4, .none), (4, .none), (6, .none), (6, .none),
   (2, .none), (4, .page), (2, .none), (7, .none), (4, .page), (4, .page), (7, .none), (7, .none)]

/-- Row 6x of the cycle counts (R76; an unknown opcode takes 1, R212). -/
def cycleRow6 : List (Nat × Extra) :=
  [(6, .none), (6, .none), (1, .none), (8, .none), (3, .none), (3, .none), (5, .none), (5, .none),
   (4, .none), (2, .none), (2, .none), (1, .none), (5, .none), (4, .none), (6, .none), (6, .none)]

/-- Row 7x of the cycle counts (R76; an unknown opcode takes 1, R212). -/
def cycleRow7 : List (Nat × Extra) :=
  [(2, .branch), (5, .page), (1, .none), (8, .none), (4, .none), (4, .none), (6, .none), (6, .none),
   (2, .none), (4, .page), (2, .none), (7, .none), (4, .page), (4, .page), (7, .none), (7, .none)]

/-- Row 8x of the cycle counts (R76; an unknown opcode takes 1, R212). -/
def cycleRow8 : List (Nat × Extra) :=
  [(2, .none), (6, .none), (1, .none), (6, .none), (3, .none), (3, .none), (3, .none), (3, .none),
   (2, .none), (1, .none), (2, .none), (1, .none), (4, .none), (4, .none), (4, .none), (4, .none)]

/-- Row 9x of the cycle counts (R76; an unknown opcode takes 1, R212). -/
def cycleRow9 : List (Nat × Extra) :=
  [(2, .branch), (6, .none), (1, .none), (1, .none), (4, .none), (4, .none), (4, .none), (4, .none),
   (2, .none), (5, .none), (2, .none), (1, .none), (1, .none), (5, .none), (1, .none), (1, .none)]

/-- Row Ax of the cycle counts (R76; an unknown opcode takes 1, R212). -/
def cycleRowA : List (Nat × Extra) :=
  [(2, .none), (6, .none), (2, .none), (6, .none), (3, .none), (3, .none), (3, .none), (3, .none),
   (2, .none), (2, .none), (2, .none), (1, .none), (4, .none), (4, .none), (4, .none), (4, .none)]

/-- Row Bx of the cycle counts (R76; an unknown opcode takes 1, R212). -/
def cycleRowB : List (Nat × Extra) :=
  [(2, .branch), (5, .page), (1, .none), (5, .page), (4, .none), (4, .none), (4, .none), (4, .none),
   (2, .none), (4, .page), (2, .none), (1, .none), (4, .page), (4, .page), (4, .page), (4, .page)]

/-- Row Cx of the cycle counts (R76; an unknown opcode takes 1, R212). -/
def cycleRowC : List (Nat × Extra) :=
  [(2, .none), (6, .none), (1, .none), (8, .none), (3, .none), (3, .none), (5, .none), (5, .none),
   (2, .none), (2, .none), (2, .none), (1, .none), (4, .none), (4, .none), (6, .none), (6, .none)]

/-- Row Dx of the cycle counts (R76; an unknown opcode takes 1, R212). -/
def cycleRowD : List (Nat × Extra) :=
  [(2, .branch), (5, .page), (1, .none), (8, .none), (4, .none), (4, .none), (6, .none), (6, .none),
   (2, .none), (4, .page), (2, .none), (7, .none), (4, .page), (4, .page), (7, .none), (7, .none)]

/-- Row Ex of the cycle counts (R76; an unknown opcode takes 1, R212). -/
def cycleRowE : List (Nat × Extra) :=
  [(2, .none), (6, .none), (1, .none), (8, .none), (3, .none), (3, .none), (5, .none), (5, .none),
   (2, .none), (2, .none), (2, .none), (2, .none), (4, .none), (4, .none), (6, .none), (6, .none)]

/-- Row Fx of the cycle counts (R76; an unknown opcode takes 1, R212). -/
def cycleRowF : List (Nat × Extra) :=
  [(2, .branch), (5, .page), (1, .none), (8, .none), (4, .none), (4, .none), (6, .none), (6, .none),
   (2, .none), (4, .page), (2, .none), (7, .none), (4, .page), (4, .page), (7, .none), (7, .none)]

/-- The documented count of an opcode byte, with what may be added (R76). -/
def documentedCycles (op : Byte) : Nat × Extra :=
  (([cycleRow0, cycleRow1, cycleRow2, cycleRow3, cycleRow4, cycleRow5, cycleRow6, cycleRow7, cycleRow8, cycleRow9,
     cycleRowA, cycleRowB, cycleRowC, cycleRowD, cycleRowE, cycleRowF].getD (op >>> 4).toNat []).getD
    (op &&& 0x0F).toNat (0, .none))

/-- The pointer an (indirect),Y operand reads in page zero (R72). -/
def zeroPageWord (s : State) (b : Byte) : Word := wordOf (s.ram.read b.toNat) (s.ram.read (b + 1).toNat)

/-- `p`: whether an indexed operand crosses a page (R69, R70, R72). -/
def operandCrosses (i : Instr) (s : State) : Bool :=
  match instrOperand i with
  | some (.abx w) => pageCross w s.x
  | some (.aby w) => pageCross w s.y
  | some (.izy b) => pageCross (zeroPageWord s b) s.y
  | _ => false

/-- The flag a branch tests, the value it branches on, and its offset byte (R164 to R172). -/
def branchOf (i : Instr) : Option (Nat × Bool × Byte) :=
  match i.mnemonic, i.operandBytes with
  | .bcc, .byte b => some (flagC, false, b)
  | .bcs, .byte b => some (flagC, true, b)
  | .beq, .byte b => some (flagZ, true, b)
  | .bne, .byte b => some (flagZ, false, b)
  | .bmi, .byte b => some (flagN, true, b)
  | .bpl, .byte b => some (flagN, false, b)
  | .bvc, .byte b => some (flagV, false, b)
  | .bvs, .byte b => some (flagV, true, b)
  | _, _ => none

/-- `t + p` of a branch: 0 not taken, 1 taken inside the page of the next instruction, 2 taken out of it (R164). -/
def branchExtra (i : Instr) (s : State) : Nat :=
  match branchOf i with
  | some (f, v, b) =>
    if s.p.getLsbD f = v then (if hiByte (s.pc + 2 + sext16 b) = hiByte (s.pc + 2) then 1 else 2) else 0
  | none => 0

/-- The cycles an instruction takes from its opcode fetch on, in a state whose `PC` is the instruction's address,
the OAM DMA of a store to $4014 left out (R75, R76, R164). -/
def instrCycles (i : Instr) (s : State) : Nat :=
  match documentedCycles i.opcode with
  | (n, .none) => n
  | (n, .page) => n + (if operandCrosses i s then 1 else 0)
  | (n, .branch) => n + branchExtra i s

/-- What a write cycle to $4014 adds to the cycle counter `n` that already includes it: 513, or 514 where `n` is odd
(R44). -/
def dmaCycles (n : Nat) : Nat := 513 + n % 2

/-- Whether the instruction stores to $4014 (R37, R44). -/
def startsDma (i : Instr) (s : State) : Bool :=
  match storedOperand i with
  | some o => decide ((effAddr .writeType o s).1 = 0x4014)
  | none => false

end Sys2Proof.Machine
end

