-- ==== Sys2Proof/Machine/HostCalls.lean ====
section
/-! DEFINITION. What the outside world can do to the machine (spec/63_controllers_and_host.md R348 to R353,
spec/70_reset_and_hazards.md R360, spec/62_apu.md R326): the host's calls. All but the audio consumer's are made
between two steps; the consumer also has its turns inside a step (`Apu.consumer`). -/

namespace Sys2Proof.Machine

/-- `reset()`: two plain bus reads of the vector, no tick, then the four assignments; everything else keeps its
value (R360, R361). -/
def hostReset (s : State) : State :=
  let lo := s.busRead resetVector
  let hi := lo.2.busRead (resetVector + 1)
  { hi.2 with pc := wordOf lo.1 hi.1, sp := 0xFD, p := 0x24, cycle := 7 }

/-- `set_pc(addr)`: `PC <- addr`, no cycle passes, nothing else changes (R351). -/
def setPc (s : State) (a : Word) : State := { s with pc := a }

/-- What the snapshot accessor returns (R351). -/
structure Snapshot where
  a     : Byte
  x     : Byte
  y     : Byte
  sp    : Byte
  pc    : Word
  p     : Byte
  cycle : Nat
  deriving DecidableEq, Repr

/-- The snapshot accessor; it changes nothing (R351). -/
def snapshot (s : State) : Snapshot :=
  { a := s.a, x := s.x, y := s.y, sp := s.sp, pc := s.pc, p := s.p, cycle := s.cycle }

/-- `send_input(k, pressed)`: it changes the live buttons only (R350). -/
def sendInput (s : State) (k : Nat) (pressed : Bool) : State := { s with pads := padInput s.pads k pressed }

/-- `get_audio_samples(max_len)` called between two steps: the samples, oldest first, and the state with `ridx` moved
(R326). A call during a step is in the consumer's turns. -/
def getAudioSamples (s : State) (maxLen : Nat) : List (BitVec 16) × State :=
  ((drainSamples maxLen s.apu).1, { s with apu := consumerRemoves maxLen s.apu })

/-- The audio consumer's turns from here on, as many removals before each coming push as the host's second thread
happens to make; any list may be set at any step boundary, so every interleaving of R325 is some run (log 22). -/
def scheduleAudio (s : State) (turns : List Nat) : State :=
  { s with apu := { s.apu with consumer := { s.apu.consumer with turns := turns } } }

/-- The finished frame handed to the host: a copy of the framebuffer, as colour indices (R349, R285, log 13). -/
abbrev Frame := Sparse (Option (BitVec 6))

/-- `step_frame()`: steps until `frame_ready`, the test first, then the flag cleared and the framebuffer copied
(R349). `fuel` bounds the number of steps; `none` where it does not suffice (log 31) or a step stops. -/
def stepFrame : Nat → State → Option (Frame × State)
  | 0, s =>
    if s.ppu.frameReady then some (s.ppu.fb, { s with ppu := { s.ppu with frameReady := false } }) else none
  | n + 1, s =>
    if s.ppu.frameReady then some (s.ppu.fb, { s with ppu := { s.ppu with frameReady := false } })
    else
      match step s with
      | .next t => stepFrame n t
      | .fault _ => none
      | .refused _ => none

/-- The step, and the moves of the agents beside the CPU at a step boundary (R8, R348). -/
inductive Move where
  /-- The CPU's step. -/
  | step
  /-- `reset` on a machine that has run. -/
  | reset
  /-- `set_pc`. -/
  | setPc (a : Word)
  /-- `send_input`. -/
  | sendInput (k : Nat) (pressed : Bool)
  /-- `get_audio_samples` by the audio consumer, between two steps. -/
  | drainAudio (maxLen : Nat)
  /-- The audio consumer's turns during the coming steps, one entry for each push. -/
  | scheduleAudio (turns : List Nat)
  /-- The host clears `frame_ready` at the end of a `step_frame`. -/
  | takeFrame
  deriving DecidableEq, Repr

/-- The machine after a move (R8, R348). -/
def move (m : Move) (s : State) : Host.Outcome State Fault Refusal :=
  match m with
  | .step => step s
  | .reset => .next (hostReset s)
  | .setPc a => .next (setPc s a)
  | .sendInput k pressed => .next (sendInput s k pressed)
  | .drainAudio maxLen => .next (getAudioSamples s maxLen).2
  | .scheduleAudio turns => .next (scheduleAudio s turns)
  | .takeFrame => .next { s with ppu := { s.ppu with frameReady := false } }

end Sys2Proof.Machine
end

