-- ==== Sys2Proof/Safety.lean ====
section
/-! DEFINITION. What counts as a well-formed state and a safe run, in the terms the claims use, and the
vocabulary of their frames. -/

namespace Sys2Proof.Machine

/-! ### The invariant of the machine's state -/

/-- No palette byte is stored at $10, $14, $18 or $1C: `pal[16]`, `pal[20]`, `pal[24]`, `pal[28]` are never used
(R271). -/
abbrev Memory.PaletteKeys (m : Memory) : Prop := ∀ e ∈ m, e.1 ≠ 16 ∧ e.1 ≠ 20 ∧ e.1 ≠ 24 ∧ e.1 ≠ 28

/-- The picture unit's ranges (R19, R263, R271, R280): canonical memories of their sizes, the position inside the
frame, at most eight secondary entries, exactly eight output units. -/
abbrev Ppu.Wf (u : Ppu) : Prop :=
  u.vram.wf 2048 = true ∧ u.pal.wf 32 = true ∧ u.pal.PaletteKeys ∧ u.oam.wf 256 = true ∧
    u.dot ≤ 340 ∧ (-1 ≤ u.scanline ∧ u.scanline ≤ 260) ∧ u.sec.length ≤ 8 ∧ u.spr.length = 8 ∧
    sparseWf none 61440 u.fb = true

/-- The audio unit's ranges (R20, R315, R317, R322): the LFSR is never 0, the divider, the sequence position of
its mode and the accumulator stay in range, the ring is canonical. -/
abbrev Apu.Wf (u : Apu) : Prop :=
  u.ns.lfsr ≠ 0 ∧ u.fcDiv < 7457 ∧ u.fcStep < (if u.fcMode5 then 5 else 4) ∧ u.acc < 4058 ∧
    sparseWf 0 4096 u.ring = true

/-- The cartridge's memories are canonical and of their sizes (R346); nothing is asked of another cartridge. -/
def Mapper.wf (c : Mapper) : Bool :=
  match c with
  | .flat32 f => f.prg.wf 32768 && f.wram.wf 8192 && f.chr.wf 8192
  | .custom _ => true

/-- Bits 5 and 4 of the live `P` are 1 and 0 (R13). -/
abbrev StatusWf (p : Byte) : Prop := p.getLsbD flagB5 = true ∧ p.getLsbD flagB = false

/-- Memory contents that a constructed machine may hold (R6, R19, R271): canonical, of the memories' sizes, no palette
byte at an entry that is never used. -/
abbrev RamInitWf (i : RamInit) : Prop :=
  Memory.wf 2048 i.ram = true ∧ Memory.wf 2048 i.vram = true ∧ Memory.wf 32 i.pal = true ∧
    Memory.PaletteKeys i.pal ∧ Memory.wf 256 i.oam = true

/-- A well-formed state: what holds at reset and what every move keeps. -/
abbrev State.Wf (s : State) : Prop :=
  s.ram.wf 2048 = true ∧ StatusWf s.p ∧ s.ppu.Wf ∧ s.apu.Wf ∧ s.cart.wf = true

/-- A safe step: it answers a next state, and that state is well formed. -/
def SafeStep (s : State) : Prop := ∃ t, step s = .next t ∧ t.Wf

/-- The APU has made exactly `cycle - 7` ticks at an instruction boundary (R381): its parity bit and its sample
accumulator are the functions of `cycle` that this count gives (R310, R322). -/
def State.AudioInStep (s : State) : Prop :=
  7 ≤ s.cycle ∧ s.apu.parity = decide (s.cycle % 2 = 0) ∧ s.apu.acc = 100 * (s.cycle - 7) % 4058

/-- A state without what no program can see: the audio ring with its two indices, the consumer, and the host's log
(R324, R326, R352). -/
def State.withoutHostView (s : State) : State :=
  { s with log := [], apu := { s.apu with ring := [], widx := 0, ridx := 0, consumer := {} } }

/-! ### Time -/

/-- The picture unit without what a port access, the CPU or the host may change between two dots: its memories, its port
registers, `v`, the buffer, `vblank`, and the two latches the CPU and the host clear. What is left only a dot moves:
position, pipelines, sprites, sprite flags, framebuffer. -/
def Ppu.movedByDots (u : Ppu) : Ppu :=
  { u with
      vram := [], pal := [], oam := [], oamAddr := 0, ctrl := 0, mask := 0, v := 0, t := 0, x := 0, w := false,
      readBuffer := 0, vblank := false, pendingNmi := false, frameReady := false }

/-- The audio unit without what a register write or the consumer may change between two ticks. What is left only a tick
moves: parity, accumulator, timers, the triangle's position, the LFSR, the ring and its `widx`. -/
def Apu.movedByTicks (u : Apu) : Apu :=
  { u with
      p1 := { timer := u.p1.timer }, p2 := { timer := u.p2.timer }, tri := { timer := u.tri.timer, pos := u.tri.pos },
      ns := { timer := u.ns.timer, lfsr := u.ns.lfsr }, fcDiv := 0, fcStep := 0, fcMode5 := false, ridx := 0,
      consumer := {} }

/-- No time has passed from `s` to `t`: the counter is the same, and so is what only a dot moves of the picture unit and
only a tick of the audio unit (R33, R361, R381). -/
def SameMoment (s t : State) : Prop :=
  t.cycle = s.cycle ∧ t.ppu.movedByDots = s.ppu.movedByDots ∧ t.apu.movedByTicks = s.apu.movedByTicks

/-- From `s` to `t` exactly `n` CPU cycles pass: `n` calls of `State.tick`, and around and between them only what
takes no time (R33, R381: "none ticks the PPU or APU other than through `Tick()`"). -/
inductive ClockedRun : Nat → State → State → Prop where
  | done {s t : State} (h : SameMoment s t) : ClockedRun 0 s t
  | cycle {n : Nat} {s r t : State} (h : SameMoment s r) (k : ClockedRun n r.tick t) : ClockedRun (n + 1) s t

/-- The cycle counter is 7 and the number of CPU cycles since a reset machine, so that the picture unit has made
`3 * (cycle - 7)` dots and the audio unit `cycle - 7` ticks (R361, R381). -/
def State.ClockedSinceReset (s : State) : Prop :=
  ∃ (init : RamInit) (c : Mapper) (n : Nat), s.cycle = 7 + n ∧ ClockedRun n (State.resetFrom init c) s

/-! ### Frames -/

/-- Every memory holds the same bytes: plain storage, the picture unit's own memories, and all of a `FLAT32`. -/
def SameMemory (s t : State) : Prop :=
  (∀ a, t.byteAt a = s.byteAt a) ∧ t.ppu.vram = s.ppu.vram ∧ t.ppu.pal = s.ppu.pal ∧ t.ppu.oam = s.ppu.oam ∧
    ∀ f, s.cart = .flat32 f → t.cart = .flat32 f

/-- Everything but the CPU's registers is as in `r`: time, memory, devices, cartridge, log. -/
def OutsideAs (r t : State) : Prop :=
  t.cycle = r.cycle ∧ t.ram = r.ram ∧ t.ppu = r.ppu ∧ t.apu = r.apu ∧ t.pads = r.pads ∧ t.cart = r.cart ∧
    t.log = r.log

/-- What a completed instruction that stores nothing leaves: outside the CPU's registers everything is as its bus
cycles left it in `r`, and every memory is as before. -/
def Quiet (s r t : State) : Prop := OutsideAs r t ∧ SameMemory s t

/-- The bytes of plain storage other than the ones that share `addr`'s cell (R38): what a store of one byte at
`addr` leaves alone. -/
def OutsideStore (addr a : Word) : Prop :=
  ¬ (regionOf a = regionOf addr ∧ (regionOf a = .ram → ramIndex a = ramIndex addr) ∧
    (regionOf a = .cartridge → a = addr))

/-- What a completed instruction that stores the byte `v` at `addr` leaves: outside the CPU's registers everything
is as its bus cycles left it in `r`; every byte of plain storage outside the cell is as before; the cell holds `v`
where it is work RAM or a `FLAT32`'s work memory, and is unchanged where it is a `FLAT32`'s program memory; the
picture unit's memories are as before unless the store goes to one of its ports or to the DMA port. -/
def Stored (s r t : State) (addr : Word) (v : Byte) : Prop :=
  OutsideAs r t ∧ (∀ b, OutsideStore addr b → t.byteAt b = s.byteAt b) ∧
    (regionOf addr = .ram → t.byteAt addr = some v) ∧
    (∀ f, s.cart = .flat32 f → regionOf addr = .cartridge →
      t.byteAt addr = if addr.msb then s.byteAt addr else some v) ∧
    (regionOf addr ≠ .ppuPort → regionOf addr ≠ .dmaPort →
      t.ppu.vram = s.ppu.vram ∧ t.ppu.pal = s.ppu.pal ∧ t.ppu.oam = s.ppu.oam)

/-- What pushing the bytes `vs`, first to last, leaves of the memories: each byte in its stack cell, from `SP` of `s`
down, and every other byte of every memory as before (R14). -/
def Pushed (s t : State) (vs : List Byte) : Prop :=
  (∀ k v, vs[k]? = some v → t.byteAt (stackAddr (s.sp - BitVec.ofNat 8 k)) = some v) ∧
    (∀ b, (∀ k, k < vs.length → OutsideStore (stackAddr (s.sp - BitVec.ofNat 8 k)) b) → t.byteAt b = s.byteAt b) ∧
    t.ppu.vram = s.ppu.vram ∧ t.ppu.pal = s.ppu.pal ∧ t.ppu.oam = s.ppu.oam ∧
    ∀ f, s.cart = .flat32 f → t.cart = .flat32 f

/-- The index registers and the stack pointer, which most instructions leave alone. -/
def SameXYS (s t : State) : Prop := t.x = s.x ∧ t.y = s.y ∧ t.sp = s.sp

/-- The status `q` is `p` with N and Z from the byte `v` and nothing else changed (R7, R15). -/
def NZFrom (p v q : Byte) : Prop :=
  q.getLsbD flagN = v.getLsbD 7 ∧ q.getLsbD flagZ = decide (v = 0) ∧
    ∀ i, i ≠ flagN → i ≠ flagZ → q.getLsbD i = p.getLsbD i

/-- The status `q` is `p` with C, V, N, Z as the addition of `a`, `m` and `p`'s carry gives them, in integers
(R120): C is the unsigned carry, V the two's-complement overflow. -/
def AddFlags (p a m q : Byte) : Prop :=
  let sum := a.toNat + m.toNat + (p.getLsbD flagC).toNat
  let signed := a.toInt + m.toInt + (p.getLsbD flagC).toNat
  q.getLsbD flagC = decide (sum > 0xFF) ∧ q.getLsbD flagV = decide (signed < -128 ∨ 127 < signed) ∧
    q.getLsbD flagN = decide (128 ≤ sum % 256) ∧ q.getLsbD flagZ = decide (sum % 256 = 0) ∧
    ∀ i, i ≠ flagC → i ≠ flagV → i ≠ flagN → i ≠ flagZ → q.getLsbD i = p.getLsbD i

/-- The status `q` is `p` with C, Z, N as the compare of `r` with `m` gives them (R125). -/
def CompareFlags (p r m q : Byte) : Prop :=
  q.getLsbD flagC = decide (m.toNat ≤ r.toNat) ∧ q.getLsbD flagZ = decide (r = m) ∧
    q.getLsbD flagN = (r - m).getLsbD 7 ∧
    ∀ i, i ≠ flagC → i ≠ flagZ → i ≠ flagN → q.getLsbD i = p.getLsbD i

/-- The status `q` is `p` with bit `f` set to `v` and nothing else changed. -/
def BitFrom (p q : Byte) (f : Nat) (v : Bool) : Prop := q.getLsbD f = v ∧ ∀ i, i ≠ f → q.getLsbD i = p.getLsbD i

end Sys2Proof.Machine
end

