-- ==== Sys2Proof/Certificates/Slice0/Obligations.lean ====
section
/-! DEFINITION. The statements for the provers, in the order of OBLIGATIONS.json. `s` is the state in which the
instruction runs: its bytes have been fetched and `pc` still holds its address (log 26). -/

open Sys2Proof Sys2Proof.Machine

/-! ### Encoding -/

/-- R60, R76: encode then decode, with any bytes after the instruction, gives the instruction and those bytes. -/
def Obligations.EncodeThenDecodeGivesTheInstruction : Prop :=
  ∀ (i : Instr) (rest : List Byte), i.wellFormed = true → decode (encode i ++ rest) = .ok (i, rest)

/-- R60, R61: bytes that decode are the encoding of what they decode to, followed by what is left over. -/
def Obligations.DecodeThenEncodeGivesTheBytes : Prop :=
  ∀ (bytes rest : List Byte) (i : Instr),
    decode bytes = .ok (i, rest) → bytes = encode i ++ rest ∧ i.wellFormed = true

/-- R60, R61, R77: every byte value starts an instruction, whose length the byte alone gives; the 29 bytes of R77,
and no others, are unknown opcodes, each one byte long. Which bytes are unknown is the spec's decision D2 (log 18). -/
def Obligations.EveryByteStartsAnInstruction : Prop :=
  (∀ op b1 b2 : Byte, ∃ i, decode [op, b1, b2] = .ok (i, [op, b1, b2].drop (opcodeLength op)) ∧ i.opcode = op ∧
      (i.mnemonic = .uUnk ↔ op ∈ unknownForms.map Prod.snd)) ∧
    (∀ op : Byte, 1 ≤ opcodeLength op ∧ opcodeLength op ≤ 3) ∧
    unknownForms.map Prod.snd =
      [0x02, 0x0B, 0x12, 0x22, 0x2B, 0x32, 0x42, 0x4B, 0x52, 0x62, 0x6B, 0x72, 0x82, 0x89, 0x8B, 0x92, 0x93, 0x9B,
       0x9C, 0x9E, 0x9F, 0xAB, 0xB2, 0xBB, 0xC2, 0xCB, 0xD2, 0xE2, 0xF2] ∧
    ∀ i op, (i, op) ∈ unknownForms → encode i = [op]

/-- R79: the example words of the assembler syntax, one per addressing mode, decode to the instructions they are
examples of (a sanity statement; the opcode bytes are the standard matrix by the spec's decision D1, log 18). -/
def Obligations.ExampleWordsDecode : Prop :=
  decode [0xE8] = .ok (.inx, []) ∧ decode [0x0A] = .ok (.aslAcc, []) ∧ decode [0xA9, 0x10] = .ok (.ldaImm 0x10, []) ∧
    decode [0xA5, 0x10] = .ok (.ldaZp 0x10, []) ∧ decode [0xB5, 0x10] = .ok (.ldaZpx 0x10, []) ∧
    decode [0xB6, 0x10] = .ok (.ldxZpy 0x10, []) ∧ decode [0xAD, 0x34, 0x12] = .ok (.ldaAbs 0x1234, []) ∧
    decode [0xBD, 0x34, 0x12] = .ok (.ldaAbx 0x1234, []) ∧ decode [0xB9, 0x34, 0x12] = .ok (.ldaAby 0x1234, []) ∧
    decode [0xA1, 0x10] = .ok (.ldaIzx 0x10, []) ∧ decode [0xB1, 0x10] = .ok (.ldaIzy 0x10, []) ∧
    decode [0xD0, 0xFB] = .ok (.bne 0xFB, []) ∧ decode [0x6C, 0xFF, 0x02] = .ok (.jmpInd 0x02FF, [])

/-! ### The step -/

/-- R51, R61, R220: with no NMI pending a step fetches by read cycles at `PC` and the one or two addresses after it
and runs, in the state they leave, the instruction `i` that the bytes decode to. Where those bytes lie in plain
storage the fetch is one cycle for each byte and nothing else. That a fetch is an ordinary read is the spec's decision
D22, that it comes whole before the meaning the model's form (log 26). -/
def Obligations.StepRunsTheDecodedInstruction : Prop :=
  ∀ (s : State) (i : Instr), s.ppu.pendingNmi = false →
    let op := s.read s.pc
    let b1 := op.2.read (s.pc + 1)
    let b2 := b1.2.read (s.pc + 2)
    (decode [op.1] = .ok (i, []) → step s = exec i op.2) ∧
      (decode [op.1, b1.1] = .ok (i, []) → step s = exec i b1.2) ∧
      (decode [op.1, b1.1, b2.1] = .ok (i, []) → step s = exec i b2.2) ∧
      ∀ bytes : List Byte, decode bytes = .ok (i, []) →
        (∀ k b, bytes[k]? = some b → s.byteAt (s.pc + BitVec.ofNat 16 k) = some b) →
        step s = exec i (State.ticks bytes.length s)

/-- R220, R222, R227: a pending NMI is served and no instruction runs. Two cycles, then the return address and the
status with bit 4 clear and bit 5 set go to the stack; `I` is set and no other flag; `PC` is the word two read
cycles fetch at $FFFA; 7 cycles pass; nothing else changes. `r` is the state after the pushes. Where the two bare cycles
fall is the spec's decision D20 (log 30). -/
def Obligations.StepServesAPendingNmi : Prop :=
  ∀ s : State, s.ppu.pendingNmi = true →
    let r := (s.clearNmi.tick.tick.pushWord s.pc).push ((s.p ||| 0x20) &&& 0xEF)
    ∃ t, step s = .next t ∧ t.pc = (r.readWord 0xFFFA).1 ∧ OutsideAs (r.readWord 0xFFFA).2 t ∧
      t.cycle = s.cycle + 7 ∧ t.a = s.a ∧ t.x = s.x ∧ t.y = s.y ∧ t.sp = s.sp - 3 ∧ BitFrom s.p t.p flagI true ∧
      Pushed s t [hiByte s.pc, loByte s.pc, (s.p ||| 0x20) &&& 0xEF]

/-- R220, R221: "No instruction can fault": every instruction in every state, every step, every host move answers a
next state. -/
def Obligations.NothingStopsTheMachine : Prop :=
  (∀ i s, ∃ t, exec i s = .next t) ∧ (∀ s, ∃ t, step s = .next t) ∧ ∀ m s, ∃ t, move m s = .next t

/-- R13, R19, R20, R263, R271, R280, R315, R317: every move of every agent, the CPU's step among them, keeps a
well-formed state well formed: bits 5 and 4 of `P` are 1 and 0, the counters stay in their ranges, the LFSR is not
0, the aliased palette bytes stay unused, every memory keeps its canonical form. -/
def Obligations.EveryMoveKeepsTheInvariant : Prop :=
  ∀ (m : Move) (s t : State), s.Wf → move m s = .next t → t.Wf

/-- The invariant holds right after reset, with the model's cartridge and contents (logs 2, 5), and for every value of
`RAM_INIT` and every cartridge whose memories are in canonical form (R6, D14). -/
def Obligations.ResetMeetsTheInvariant : Prop :=
  State.reset.Wf ∧ ∀ (init : RamInit) (c : Mapper), RamInitWf init → c.wf = true → (State.resetFrom init c).Wf

/-- R348 to R351, R360, R361: the host's calls between two steps. `reset`, on any machine: `PC` from two plain bus reads
of the vector, `SP` $FD, `P` $24, `cycle` 7, nothing else. `set_pc` changes `PC`, `send_input` the one live button its
index names, if any, and nothing else; the snapshot returns the registers and the counter. `step_frame` steps until
`frame_ready`, no step when it is set, then clears it and hands out the framebuffer; where the bound on the steps does
not suffice it answers none. A move of the host is these. That a machine that has run keeps its other state at `reset`,
which index names which button, and that the test comes first are the spec's decisions D12, D61 and D62; the bound is
the model's (logs 4, 16, 31). -/
def Obligations.HostCallsAndWhatTheyChange : Prop :=
  (∀ s : State,
      let lo := s.busRead 0xFFFC
      let hi := lo.2.busRead 0xFFFD
      let t := hostReset s
      t.pc = wordOf lo.1 hi.1 ∧ t.sp = 0xFD ∧ t.p = 0x24 ∧ t.cycle = 7 ∧ t.a = s.a ∧ t.x = s.x ∧ t.y = s.y ∧
        t.ppu = s.ppu ∧ t.apu = s.apu ∧ t.pads = s.pads ∧ t.log = s.log ∧ SameMemory s t ∧ t.cart = hi.2.cart) ∧
    (∀ (s : State) (a : Word), setPc s a = { s with pc := a } ∧
      snapshot s = { a := s.a, x := s.x, y := s.y, sp := s.sp, pc := s.pc, p := s.p, cycle := s.cycle }) ∧
    (∀ (s : State) (k : Nat) (pressed : Bool),
      let t := sendInput s k pressed
      t = { s with pads := { s.pads with buttons0 := t.pads.buttons0, buttons1 := t.pads.buttons1 } } ∧
        ∀ j, j < 8 →
          t.pads.buttons0.getLsbD j = (if k = j then pressed else s.pads.buttons0.getLsbD j) ∧
            t.pads.buttons1.getLsbD j = (if k = 8 + j then pressed else s.pads.buttons1.getLsbD j)) ∧
    (∀ (n : Nat) (run : Nat → State),
      (∀ k, k < n → (run k).ppu.frameReady = false ∧ step (run k) = .next (run (k + 1))) →
      let u := run n
      (u.ppu.frameReady = true → ∀ bound, n ≤ bound →
        stepFrame bound (run 0) = some (u.ppu.fb, { u with ppu := { u.ppu with frameReady := false } })) ∧
        (u.ppu.frameReady = false → stepFrame n (run 0) = none)) ∧
    ∀ (s : State) (a : Word) (k : Nat) (pressed : Bool) (turns : List Nat),
      move .step s = step s ∧ move .reset s = .next (hostReset s) ∧ move (.setPc a) s = .next (setPc s a) ∧
        move (.sendInput k pressed) s = .next (sendInput s k pressed) ∧
        move (.drainAudio k) s = .next { s with apu := consumerRemoves k s.apu } ∧
        move (.scheduleAudio turns) s =
          .next { s with apu := { s.apu with consumer := { s.apu.consumer with turns := turns } } } ∧
        move .takeFrame s = .next { s with ppu := { s.ppu with frameReady := false } }

/-- R23, row by row: the freshly constructed and reset machine, for every value of `RAM_INIT` and every cartridge; at
its default `RAM_INIT` is all 0. The values other than those of `PC`, `SP`, `P`, `cycle`, the LFSR and the empty ring
are the spec's decisions (D12, D14, D31, D58, D60, D61; logs 4 to 8). -/
def Obligations.ConstructedMachineHasTheListedValues : Prop :=
  State.reset = State.resetFrom Config.ramInit Mapper.empty ∧
    (∀ n, Memory.read Config.ramInit.ram n = 0 ∧ Memory.read Config.ramInit.vram n = 0 ∧
      Memory.read Config.ramInit.pal n = 0 ∧ Memory.read Config.ramInit.oam n = 0) ∧
    ∀ (init : RamInit) (c : Mapper),
      let t := State.resetFrom init c
      let lo := c.cpuRead 0xFFFC
      let hi := lo.2.cpuRead 0xFFFD
      let u := t.ppu
      let p := t.apu
      t = hostReset (State.constructedFrom init c) ∧ t.pc = wordOf lo.1 hi.1 ∧ t.sp = 0xFD ∧ t.p = 0x24 ∧ t.cycle = 7 ∧
        t.a = 0 ∧ t.x = 0 ∧ t.y = 0 ∧ t.ram = init.ram ∧ t.cart = hi.2 ∧ (∀ f, c = .flat32 f → t.cart = c) ∧
        (u.vram = init.vram ∧ u.pal = init.pal ∧ u.oam = init.oam ∧ u.pendingNmi = false ∧ u.frameReady = false ∧
          u.scanline = 0 ∧ u.dot = 0 ∧ u.v = 0 ∧ u.t = 0 ∧ u.x = 0 ∧ u.w = false ∧ u.ctrl = 0 ∧ u.mask = 0 ∧
          u.oamAddr = 0 ∧ u.readBuffer = 0 ∧ u.oddFrame = false ∧ u.vblank = false ∧ u.sprite0Hit = false ∧
          u.spriteOverflow = false ∧ u.sec = [] ∧ u.spr.length = 8 ∧ (∀ un ∈ u.spr, un.valid = false) ∧
          u.bgPatLo = 0 ∧ u.bgPatHi = 0 ∧ u.bgAttrLo = 0 ∧ u.bgAttrHi = 0 ∧ u.atLatchLo = false ∧
          u.atLatchHi = false ∧ u.ntByte = 0 ∧ u.atBits = 0 ∧ u.patLo = 0 ∧ u.patHi = 0 ∧
          ∀ row col, u.fbWord row col = 0) ∧
        (∀ ch, ch = p.p1 ∨ ch = p.p2 → ch.enabled = false ∧ ch.halt = false ∧ ch.duty = 0 ∧ ch.volume = 0 ∧
          ch.timerLoad = 0 ∧ ch.timer = 0 ∧ ch.pos = 0 ∧ ch.lengthValue = 0) ∧
        (p.tri.enabled = false ∧ p.tri.control = false ∧ p.tri.linearReload = 0 ∧ p.tri.timerLoad = 0 ∧
          p.tri.timer = 0 ∧ p.tri.pos = 0 ∧ p.tri.lengthValue = 0 ∧ p.tri.linearCounter = 0 ∧
          p.tri.reloadLinear = false) ∧
        (p.ns.enabled = false ∧ p.ns.halt = false ∧ p.ns.volume = 0 ∧ p.ns.mode = false ∧ p.ns.timerLoad = 0 ∧
          p.ns.timer = 0 ∧ p.ns.lfsr = 1 ∧ p.ns.lengthValue = 0) ∧
        (p.fcDiv = 0 ∧ p.fcStep = 0 ∧ p.fcMode5 = false ∧ p.parity = false ∧ p.acc = 0 ∧
          (∀ k, sparseGet 0 p.ring k = 0) ∧ p.widx = 0 ∧ p.ridx = 0) ∧
        t.pads.shift0 = 0 ∧ t.pads.shift1 = 0 ∧ t.pads.strobe = false ∧ t.pads.buttons0 = 0 ∧ t.pads.buttons1 = 0

/-- R75, R76, R164, R212, R381(a), R44: with no NMI pending, a step takes the documented count of the opcode it
fetches, one more on a page cross of an indexed read, one or two more for a taken branch, and 513 or 514 more when
it stores to $4014. `f` is the state after the fetch. The counts are the standard ones by the spec's decisions D3 and D8
(logs 10, 30), the parity that costs the 514th cycle its D16 (log 11). -/
def Obligations.StepTakesTheDocumentedCycles : Prop :=
  ∀ s t : State, s.ppu.pendingNmi = false → step s = .next t →
    let i := (fetch s).1
    let f := (fetch s).2
    t.cycle = s.cycle + instrCycles i f +
      (if startsDma i f then dmaCycles (s.cycle + instrCycles i f) else 0)

/-! ### Rules about every instruction -/

/-- R13, R15: the places of the eight flags in `P`; each flag is changed by the instructions the table names and by no
other; bits 4 and 5 only by PLP and RTI. *SBC counts as SBC (R211). -/
def Obligations.OnlyTheFlagWritersChangeAFlag : Prop :=
  [flagC, flagZ, flagI, flagD, flagB, flagB5, flagV, flagN] = [0, 1, 2, 3, 4, 5, 6, 7] ∧
  ∀ (i : Instr) (s t : State), exec i s = .next t →
    (i.mnemonic ∉ [.adc, .sbc, .uSbc, .cmp, .cpx, .cpy, .asl, .lsr, .rol, .ror, .sec, .clc, .plp, .rti, .uDcp, .uIsb,
        .uSlo, .uRla, .uSre, .uRra] → t.p.getLsbD flagC = s.p.getLsbD flagC) ∧
      (i.mnemonic ∉ [.lda, .ldx, .ldy, .tax, .tay, .txa, .tya, .tsx, .pla, .adc, .sbc, .uSbc, .and, .ora, .eor, .cmp,
          .cpx, .cpy, .bit, .inc, .dec, .inx, .iny, .dex, .dey, .asl, .lsr, .rol, .ror, .plp, .rti, .uLax, .uDcp,
          .uIsb, .uSlo, .uRla, .uSre, .uRra] →
        t.p.getLsbD flagZ = s.p.getLsbD flagZ ∧ t.p.getLsbD flagN = s.p.getLsbD flagN) ∧
      (i.mnemonic ∉ [.sei, .cli, .plp, .rti, .brk] → t.p.getLsbD flagI = s.p.getLsbD flagI) ∧
      (i.mnemonic ∉ [.sed, .cld, .plp, .rti] → t.p.getLsbD flagD = s.p.getLsbD flagD) ∧
      (i.mnemonic ∉ [.adc, .sbc, .uSbc, .bit, .clv, .plp, .rti, .uIsb, .uRra] →
        t.p.getLsbD flagV = s.p.getLsbD flagV) ∧
      (i.mnemonic ∉ [.plp, .rti] →
        t.p.getLsbD flagB = s.p.getLsbD flagB ∧ t.p.getLsbD flagB5 = s.p.getLsbD flagB5)

/-- R10, R12: each register is changed by the instructions the table names and by no other; a memory form of a shift
does not touch `A`. -/
def Obligations.OnlyTheRegisterWritersChangeARegister : Prop :=
  ∀ (i : Instr) (s t : State), exec i s = .next t →
    (i.mnemonic ∉ [.lda, .txa, .tya, .pla, .adc, .sbc, .uSbc, .and, .ora, .eor, .uLax, .uSlo, .uRla, .uSre, .uRra,
        .uIsb] → i ∉ [.aslAcc, .lsrAcc, .rolAcc, .rorAcc] → t.a = s.a) ∧
      (i.mnemonic ∉ [.ldx, .tax, .tsx, .inx, .dex, .uLax] → t.x = s.x) ∧
      (i.mnemonic ∉ [.ldy, .tay, .iny, .dey] → t.y = s.y) ∧
      (i.mnemonic ∉ [.txs, .pha, .php, .pla, .plp, .jsr, .rts, .brk, .rti] → t.sp = s.sp)

/-- R33, R310, R322, R361, R381(b): one CPU cycle is three dots, one APU tick and one count, and changes nothing else.
A step is exactly as many cycles as the counter counts, and what it does between them moves neither unit on. So at
every boundary the picture unit has made exactly `3 * (cycle - 7)` dots and the APU exactly `cycle - 7` ticks since the
reset, as the APU's parity bit and accumulator show; true after reset, kept by every move of every agent but a second
`reset`. The order inside a cycle, the parity, the integer accumulator and the untimed reset are the spec's decisions
D4, D52, D56 and D13 (logs 9, 15, 17, 34). -/
def Obligations.DevicesKeepInStepWithTheCycleCounter : Prop :=
  (∀ s : State,
      let g := ppuTick (ppuTick (ppuTick { ppu := s.ppu, cart := s.cart }))
      s.tick = { s with ppu := g.ppu, cart := g.cart, apu := apuTick s.apu, cycle := s.cycle + 1 }) ∧
    (∀ (n : Nat) (s : State), State.ticks n s = State.tick^[n] s) ∧
    (∀ s t : State, step s = .next t → ∃ n, t.cycle = s.cycle + n ∧ ClockedRun n s t) ∧
    (∀ (init : RamInit) (c : Mapper),
      (State.resetFrom init c).ClockedSinceReset ∧ (State.resetFrom init c).AudioInStep) ∧
    ∀ (m : Move) (s t : State), m ≠ .reset → move m s = .next t →
      (s.ClockedSinceReset → t.ClockedSinceReset) ∧ (s.AudioInStep → t.AudioInStep)

/-- R324, R326, R352, R379: what the host sees never reaches the program: two machines that differ only in the audio
ring, its two indices, what the audio consumer does during the step and the host's log still differ only there after
it. -/
def Obligations.HostViewNeverReachesTheProgram : Prop :=
  ∀ s s' t t' : State, s.withoutHostView = s'.withoutHostView → step s = .next t → step s' = .next t' →
    t.withoutHostView = t'.withoutHostView

/-! ### Addressing and the bus -/

/-- R64 to R72: the effective address of every mode in integers, the cycles its helper takes after the operand bytes,
and that it changes no register and no memory; `cross` is that the address leaves the page of its base; the operand
read of every mode but the immediate is one read cycle at that address after the helper (R75). The cycles of
zero-page,Y and of write-type use and the wraps are the spec's decisions D3, D5 and D19 (logs 10, 20, 30). -/
def Obligations.EffectiveAddresses : Prop :=
  (∀ (u : Use) (b : Byte) (w : Word) (s : State),
      (effAddr u (.imm b) s).1 = s.pc + 1 ∧ readOp (.imm b) s = (b, s) ∧
      (effAddr u (.zp b) s).1.toNat = b.toNat ∧
      (effAddr u (.zpx b) s).1.toNat = (b.toNat + s.x.toNat) % 256 ∧
      (effAddr u (.zpy b) s).1.toNat = (b.toNat + s.y.toNat) % 256 ∧
      (effAddr u (.abs w) s).1 = w ∧
      (effAddr u (.abx w) s).1.toNat = (w.toNat + s.x.toNat) % 65536 ∧
      (effAddr u (.aby w) s).1.toNat = (w.toNat + s.y.toNat) % 65536 ∧
      (effAddr u (.izx b) s).1.toNat =
        (s.ram.read ((b.toNat + s.x.toNat) % 256)).toNat +
          256 * (s.ram.read ((b.toNat + s.x.toNat + 1) % 256)).toNat ∧
      (effAddr u (.izy b) s).1.toNat =
        ((s.ram.read b.toNat).toNat + 256 * (s.ram.read ((b.toNat + 1) % 256)).toNat + s.y.toNat) % 65536) ∧
    (∀ (u : Use) (o : Operand) (s : State),
      (effAddr u o s).2.cycle = s.cycle +
        (match o with
          | .imm _ | .zp _ | .abs _ => 0
          | .zpx _ | .zpy _ => 1
          | .izx _ => 3
          | .abx w => if u = .writeType ∨ pageCross w s.x then 1 else 0
          | .aby w => if u = .writeType ∨ pageCross w s.y then 1 else 0
          | .izy b => if u = .writeType ∨ pageCross (zeroPageWord s b) s.y then 3 else 2) ∧
      SameMemory s (effAddr u o s).2 ∧ (effAddr u o s).2.a = s.a ∧ SameXYS s (effAddr u o s).2 ∧
      (effAddr u o s).2.p = s.p ∧ (effAddr u o s).2.pc = s.pc) ∧
    (∀ (o : Operand) (s : State), (∀ b, o ≠ .imm b) →
      readOp o s = (effAddr .readType o s).2.read (effAddr .readType o s).1) ∧
    (∀ (s : State) (b : Byte), (zeroPageWord s b).toNat =
      (s.ram.read b.toNat).toNat + 256 * (s.ram.read ((b.toNat + 1) % 256)).toNat) ∧
    ∀ (base : Word) (i : Byte), pageCross base i = decide (hiByte (base + zext16 i) ≠ hiByte base)

/-- R31, R34 to R42, R251, R346: one bus cycle at every kind of address. A read of plain storage returns its
byte and one cycle passes; a write stores its byte, in that one cell, where the storage can be written; a read with no
readable target returns 0 and is logged (the spec's decision D15), a write with no target does nothing. At the picture
unit's ports and their mirrors, the audio unit's, the controllers', the DMA port and the cartridge the access is the
device's own operation and touches nothing else. A word is read in two cycles and pushed in two, low byte at the lower
address. Plain storage is work RAM and a `FLAT32`'s two memories. That the cycle's tick comes before its access is the
default of `TICK_ORDER` (D4, log 9). -/
def Obligations.BusCyclesFollowTheAddressMap : Prop :=
  (∀ (s : State) (a w : Word) (lo hi : Byte),
      s.read a = s.tick.busRead a ∧
        s.readWord a = (wordOf (s.read a).1 ((s.read a).2.read (a + 1)).1, ((s.read a).2.read (a + 1)).2) ∧
        s.pushWord w = (s.push (hiByte w)).push (loByte w) ∧ (wordOf lo hi).toNat = lo.toNat + 256 * hi.toNat ∧
        (hiByte w).toNat = w.toNat / 256 ∧ (loByte w).toNat = w.toNat % 256) ∧
    (∀ (s : State) (a : Word),
      (a ≤ 0x1FFF → s.byteAt a = some (s.ram.read (a.toNat % 2048))) ∧
        (0x2000 ≤ a → a ≤ 0x5FFF → s.byteAt a = none) ∧
        (∀ f, s.cart = .flat32 f →
          (0x6000 ≤ a → a ≤ 0x7FFF → s.byteAt a = some (f.wram.read (a.toNat - 0x6000))) ∧
            (0x8000 ≤ a → s.byteAt a = some (f.prg.read (a.toNat - 0x8000)))) ∧
        ∀ st, s.cart = .custom st → 0x6000 ≤ a → s.byteAt a = none) ∧
    (∀ (s : State) (a : Word) (v : Byte), s.byteAt a = some v → s.read a = (v, s.tick)) ∧
    (∀ (s : State) (a : Word) (v : Byte), Stored s (s.write a v) (s.write a v) a v) ∧
    (∀ (s : State) (a : Word) (v : Byte) (f : Flat32), s.cart = .flat32 f → 0x8000 ≤ a → s.write a v = s.tick) ∧
    (∀ (s : State) (a : Word), (0x4000 ≤ a ∧ a ≤ 0x4014) ∨ (0x4018 ≤ a ∧ a ≤ 0x5FFF) →
      s.read a = (0, s.tick.logged (.illegalRead a))) ∧
    (∀ (s : State) (a : Word) (v : Byte), 0x4018 ≤ a → a ≤ 0x5FFF → s.write a v = s.tick) ∧
    (∀ (s : State) (a : Word) (v : Byte), 0x2000 ≤ a → a ≤ 0x3FFF →
      let n := a.toNat % 8
      let port := BitVec.ofNat 3 n
      let r := ppuPortRead s.tick.ppuSide port
      let w := ppuPortWrite s.tick.ppuSide port v
      s.write a v = { s.tick with ppu := w.ppu, cart := w.cart } ∧
        s.read a =
          if n = 2 ∨ n = 4 ∨ n = 7 then (r.1, { s.tick with ppu := r.2.ppu, cart := r.2.cart })
          else (0, s.tick.logged (.illegalRead (BitVec.ofNat 16 (0x2000 + n))))) ∧
    (∀ (s : State) (a : Word) (v : Byte), (0x4000 ≤ a ∧ a ≤ 0x4013) ∨ a = 0x4015 ∨ a = 0x4017 →
      s.write a v = { s.tick with apu := apuWrite s.tick.apu a v }) ∧
    (∀ (s : State) (v : Byte), s.read 0x4015 = (apuStatusRead s.tick.apu, s.tick) ∧
      s.read 0x4016 = ((padRead s.pads false).1, { s.tick with pads := (padRead s.pads false).2 }) ∧
      s.read 0x4017 = ((padRead s.pads true).1, { s.tick with pads := (padRead s.pads true).2 }) ∧
      s.write 0x4016 v = { s.tick with pads := padStrobe s.pads v } ∧ s.write 0x4014 v = s.tick.oamDma v) ∧
    ∀ (s : State) (a : Word) (v : Byte), 0x6000 ≤ a →
      s.read a = ((s.tick.cart.cpuRead a).1, { s.tick with cart := (s.tick.cart.cpuRead a).2 }) ∧
        s.write a v = { s.tick with cart := s.tick.cart.cpuWrite a v }

/-- R38: "Writing then reading work RAM through any of the four mirrors yields the same byte", and no other byte of
work RAM changes. -/
def Obligations.WorkRamMirrors : Prop :=
  ∀ (s : State) (a b : Word) (v : Byte), a ≤ 0x1FFF → b ≤ 0x1FFF →
    (a.toNat % 2048 = b.toNat % 2048 → ((s.write a v).read b).1 = v) ∧
      (a.toNat % 2048 ≠ b.toNat % 2048 → ((s.write a v).read b).1 = (s.read b).1)

/-- R14: "Pushing then popping any byte on the stack preserves it; stack wraps modulo 256": the push stores at
`0x0100 | SP` and the pull reads it back; each is one bus cycle; at `SP` $00 and $FF the stack wraps. -/
def Obligations.StackPushesAndPulls : Prop :=
  ∀ (s : State) (v : Byte),
    stackAddr s.sp = 0x0100 ||| zext16 s.sp ∧
      s.push v = { s.write (0x0100 ||| zext16 s.sp) v with sp := s.sp - 1 } ∧
      s.pull = ({ s with sp := s.sp + 1 } : State).read (0x0100 ||| zext16 (s.sp + 1)) ∧
      (s.push v).pull.1 = v ∧ (s.push v).pull.2.sp = s.sp ∧
      (s.push v).byteAt (0x0100 ||| zext16 s.sp) = some v ∧ (s.push v).sp = s.sp - 1 ∧
      (s.push v).cycle = s.cycle + 1 ∧ s.pull.2.cycle = s.cycle + 1 ∧ s.pull.2.sp = s.sp + 1 ∧
      s.byteAt (0x0100 ||| zext16 (s.sp + 1)) = some s.pull.1 ∧
      (s.sp = 0x00 → (s.push v).byteAt 0x0100 = some v ∧ (s.push v).sp = 0xFF) ∧
      (s.sp = 0xFF → s.byteAt 0x0100 = some s.pull.1 ∧ s.pull.2.sp = 0x00)

/-! ### Loads, stores, transfers -/

/-- R100, R101, R102: LDA, LDX and LDY in each of their modes complete: the register gets the byte read, N and Z come
from it, no other flag and no other register changes, `PC` moves past the instruction, no memory changes. -/
def Obligations.LoadsMoveTheOperand : Prop :=
  EncodedBy ldaForm [(.imm, 0xA9), (.zp, 0xA5), (.zpx, 0xB5), (.abs, 0xAD), (.abx, 0xBD), (.aby, 0xB9),
    (.izx, 0xA1), (.izy, 0xB1)] ∧
  EncodedBy ldxForm [(.imm, 0xA2), (.zp, 0xA6), (.zpy, 0xB6), (.abs, 0xAE), (.aby, 0xBE)] ∧
  EncodedBy ldyForm [(.imm, 0xA0), (.zp, 0xA4), (.zpx, 0xB4), (.abs, 0xAC), (.abx, 0xBC)] ∧
  ∀ (o : Operand) (i : Instr) (s : State),
    let m := readOp o s
    (ldaForm o = some i → ∃ t, exec i s = .next t ∧ t.a = m.1 ∧ NZFrom s.p m.1 t.p ∧ SameXYS s t ∧
        t.pc = s.pc + BitVec.ofNat 16 o.len ∧ Quiet s m.2 t) ∧
      (ldxForm o = some i → ∃ t, exec i s = .next t ∧ t.x = m.1 ∧ NZFrom s.p m.1 t.p ∧ t.a = s.a ∧ t.y = s.y ∧
        t.sp = s.sp ∧ t.pc = s.pc + BitVec.ofNat 16 o.len ∧ Quiet s m.2 t) ∧
      (ldyForm o = some i → ∃ t, exec i s = .next t ∧ t.y = m.1 ∧ NZFrom s.p m.1 t.p ∧ t.a = s.a ∧ t.x = s.x ∧
        t.sp = s.sp ∧ t.pc = s.pc + BitVec.ofNat 16 o.len ∧ Quiet s m.2 t)

/-- R103, R104, R105: STA, STX and STY in each of their modes complete: one write cycle of the register at the mode's
effective address, no flag and no register changes, `PC` moves past the instruction, every byte outside the cell stored
to is as before. -/
def Obligations.StoresWriteTheRegister : Prop :=
  EncodedBy staForm [(.zp, 0x85), (.zpx, 0x95), (.abs, 0x8D), (.abx, 0x9D), (.aby, 0x99), (.izx, 0x81),
    (.izy, 0x91)] ∧
  EncodedBy stxForm [(.zp, 0x86), (.zpy, 0x96), (.abs, 0x8E)] ∧
  EncodedBy styForm [(.zp, 0x84), (.zpx, 0x94), (.abs, 0x8C)] ∧
  ∀ (o : Operand) (i : Instr) (s : State) (v : Byte),
    (staForm o = some i ∧ v = s.a) ∨ (stxForm o = some i ∧ v = s.x) ∨ (styForm o = some i ∧ v = s.y) →
    let e := effAddr .writeType o s
    ∃ t, exec i s = .next t ∧ t.a = s.a ∧ SameXYS s t ∧ t.p = s.p ∧ t.pc = s.pc + BitVec.ofNat 16 o.len ∧
      Stored s (e.2.write e.1 v) t e.1 v

/-- R106 to R111: the six transfers complete in one cycle after the fetch: the target gets the source, N and Z come
from it (TXS sets no flag), nothing else changes but `PC` and what the cycle does to the devices. -/
def Obligations.TransfersCopyARegister : Prop :=
  [Instr.tax, .tay, .txa, .tya, .tsx, .txs].map encode = [[0xAA], [0xA8], [0x8A], [0x98], [0xBA], [0x9A]] ∧
  ∀ s : State,
    (∃ t, exec .tax s = .next t ∧ t.x = s.a ∧ NZFrom s.p s.a t.p ∧ t.a = s.a ∧ t.y = s.y ∧ t.sp = s.sp ∧
        t.pc = s.pc + 1 ∧ Quiet s s.tick t) ∧
      (∃ t, exec .tay s = .next t ∧ t.y = s.a ∧ NZFrom s.p s.a t.p ∧ t.a = s.a ∧ t.x = s.x ∧ t.sp = s.sp ∧
        t.pc = s.pc + 1 ∧ Quiet s s.tick t) ∧
      (∃ t, exec .txa s = .next t ∧ t.a = s.x ∧ NZFrom s.p s.x t.p ∧ SameXYS s t ∧ t.pc = s.pc + 1 ∧
        Quiet s s.tick t) ∧
      (∃ t, exec .tya s = .next t ∧ t.a = s.y ∧ NZFrom s.p s.y t.p ∧ SameXYS s t ∧ t.pc = s.pc + 1 ∧
        Quiet s s.tick t) ∧
      (∃ t, exec .tsx s = .next t ∧ t.x = s.sp ∧ NZFrom s.p s.sp t.p ∧ t.a = s.a ∧ t.y = s.y ∧ t.sp = s.sp ∧
        t.pc = s.pc + 1 ∧ Quiet s s.tick t) ∧
      ∃ t, exec .txs s = .next t ∧ t.sp = s.x ∧ t.p = s.p ∧ t.a = s.a ∧ t.x = s.x ∧ t.y = s.y ∧ t.pc = s.pc + 1 ∧
        Quiet s s.tick t

/-! ### Arithmetic and logic -/

/-- R120, R121: ADC in each mode adds the operand and the carry; SBC adds the operand's complement. `A`
gets the low byte of the sum; C is the carry out, V the two's-complement overflow, N and Z come from the result; D is
not read; no other register and no memory changes. -/
def Obligations.AddAndSubtractWithCarry : Prop :=
  EncodedBy adcForm [(.imm, 0x69), (.zp, 0x65), (.zpx, 0x75), (.abs, 0x6D), (.abx, 0x7D), (.aby, 0x79),
    (.izx, 0x61), (.izy, 0x71)] ∧
  EncodedBy sbcForm [(.imm, 0xE9), (.zp, 0xE5), (.zpx, 0xF5), (.abs, 0xED), (.abx, 0xFD), (.aby, 0xF9),
    (.izx, 0xE1), (.izy, 0xF1)] ∧
  ∀ (o : Operand) (i : Instr) (s : State) (n : Byte),
    let m := readOp o s
    (adcForm o = some i ∧ n = m.1) ∨ (sbcForm o = some i ∧ n = ~~~m.1) →
    ∃ t, exec i s = .next t ∧ t.a.toNat = (s.a.toNat + n.toNat + (s.p.getLsbD flagC).toNat) % 256 ∧
      AddFlags s.p s.a n t.p ∧ SameXYS s t ∧ t.pc = s.pc + BitVec.ofNat 16 o.len ∧ Quiet s m.2 t

/-- R122, R123, R124, R128: AND, ORA and EOR in each mode combine `A` with the operand bit by bit, N and Z from the
new `A`; BIT changes no register: Z from `A & m`, N from bit 7 and V from bit 6 of the operand. Nothing else changes
but `PC` and what the read does. -/
def Obligations.LogicAndBitTest : Prop :=
  EncodedBy andForm [(.imm, 0x29), (.zp, 0x25), (.zpx, 0x35), (.abs, 0x2D), (.abx, 0x3D), (.aby, 0x39),
    (.izx, 0x21), (.izy, 0x31)] ∧
  EncodedBy oraForm [(.imm, 0x09), (.zp, 0x05), (.zpx, 0x15), (.abs, 0x0D), (.abx, 0x1D), (.aby, 0x19),
    (.izx, 0x01), (.izy, 0x11)] ∧
  EncodedBy eorForm [(.imm, 0x49), (.zp, 0x45), (.zpx, 0x55), (.abs, 0x4D), (.abx, 0x5D), (.aby, 0x59),
    (.izx, 0x41), (.izy, 0x51)] ∧
  EncodedBy bitForm [(.zp, 0x24), (.abs, 0x2C)] ∧
  (∀ (o : Operand) (i : Instr) (s : State) (r : Byte),
      let m := readOp o s
      (andForm o = some i ∧ r = s.a &&& m.1) ∨ (oraForm o = some i ∧ r = s.a ||| m.1) ∨
        (eorForm o = some i ∧ r = s.a ^^^ m.1) →
      ∃ t, exec i s = .next t ∧ t.a = r ∧ NZFrom s.p r t.p ∧ SameXYS s t ∧ t.pc = s.pc + BitVec.ofNat 16 o.len ∧
        Quiet s m.2 t) ∧
  ∀ (o : Operand) (i : Instr) (s : State), bitForm o = some i →
    let m := readOp o s
    ∃ t, exec i s = .next t ∧ t.p.getLsbD flagZ = decide (s.a &&& m.1 = 0) ∧ t.p.getLsbD flagN = m.1.getLsbD 7 ∧
      t.p.getLsbD flagV = m.1.getLsbD 6 ∧
      (∀ k, k ≠ flagZ → k ≠ flagN → k ≠ flagV → t.p.getLsbD k = s.p.getLsbD k) ∧ t.a = s.a ∧ SameXYS s t ∧
      t.pc = s.pc + BitVec.ofNat 16 o.len ∧ Quiet s m.2 t

/-- R125, R126, R127: CMP, CPX and CPY in each mode set C, Z and N as the unsigned comparison of the register with
the operand gives them, and change no register and no memory. -/
def Obligations.ComparesSetFlagsOnly : Prop :=
  EncodedBy cmpForm [(.imm, 0xC9), (.zp, 0xC5), (.zpx, 0xD5), (.abs, 0xCD), (.abx, 0xDD), (.aby, 0xD9),
    (.izx, 0xC1), (.izy, 0xD1)] ∧
  EncodedBy cpxForm [(.imm, 0xE0), (.zp, 0xE4), (.abs, 0xEC)] ∧
  EncodedBy cpyForm [(.imm, 0xC0), (.zp, 0xC4), (.abs, 0xCC)] ∧
  ∀ (o : Operand) (i : Instr) (s : State) (r : Byte),
    let m := readOp o s
    (cmpForm o = some i ∧ r = s.a) ∨ (cpxForm o = some i ∧ r = s.x) ∨ (cpyForm o = some i ∧ r = s.y) →
    ∃ t, exec i s = .next t ∧ CompareFlags s.p r m.1 t.p ∧ t.a = s.a ∧ SameXYS s t ∧
      t.pc = s.pc + BitVec.ofNat 16 o.len ∧ Quiet s m.2 t

/-- R129, R130: INC and DEC read the operand, take one cycle, and write it one more or one less mod 256 at the same
address; N and Z come from the byte written; no register changes. -/
def Obligations.IncrementAndDecrementMemory : Prop :=
  EncodedBy incForm [(.zp, 0xE6), (.zpx, 0xF6), (.abs, 0xEE), (.abx, 0xFE)] ∧
  EncodedBy decForm [(.zp, 0xC6), (.zpx, 0xD6), (.abs, 0xCE), (.abx, 0xDE)] ∧
  ∀ (o : Operand) (i : Instr) (s : State) (r : Byte),
    let e := effAddr .writeType o s
    let m := e.2.read e.1
    (incForm o = some i ∧ r.toNat = (m.1.toNat + 1) % 256) ∨ (decForm o = some i ∧ r.toNat = (m.1.toNat + 255) % 256) →
    ∃ t, exec i s = .next t ∧ NZFrom s.p r t.p ∧ t.a = s.a ∧ SameXYS s t ∧ t.pc = s.pc + BitVec.ofNat 16 o.len ∧
      Stored s (m.2.tick.write e.1 r) t e.1 r

/-- R131 to R134: INX, INY, DEX and DEY change their register by one mod 256 in one cycle after the fetch; N and Z
come from it; nothing else changes. -/
def Obligations.IncrementAndDecrementIndexRegisters : Prop :=
  [Instr.inx, .iny, .dex, .dey].map encode = [[0xE8], [0xC8], [0xCA], [0x88]] ∧
  ∀ s : State,
    (∃ t, exec .inx s = .next t ∧ t.x.toNat = (s.x.toNat + 1) % 256 ∧ NZFrom s.p t.x t.p ∧ t.a = s.a ∧ t.y = s.y ∧
        t.sp = s.sp ∧ t.pc = s.pc + 1 ∧ Quiet s s.tick t) ∧
      (∃ t, exec .iny s = .next t ∧ t.y.toNat = (s.y.toNat + 1) % 256 ∧ NZFrom s.p t.y t.p ∧ t.a = s.a ∧
        t.x = s.x ∧ t.sp = s.sp ∧ t.pc = s.pc + 1 ∧ Quiet s s.tick t) ∧
      (∃ t, exec .dex s = .next t ∧ t.x.toNat = (s.x.toNat + 255) % 256 ∧ NZFrom s.p t.x t.p ∧ t.a = s.a ∧
        t.y = s.y ∧ t.sp = s.sp ∧ t.pc = s.pc + 1 ∧ Quiet s s.tick t) ∧
      ∃ t, exec .dey s = .next t ∧ t.y.toNat = (s.y.toNat + 255) % 256 ∧ NZFrom s.p t.y t.p ∧ t.a = s.a ∧
        t.x = s.x ∧ t.sp = s.sp ∧ t.pc = s.pc + 1 ∧ Quiet s s.tick t

/-! ### Shifts and rotates -/

/-- R150 to R153: the shifts and rotates. `A`, or the byte at the effective address, read and written back with one
cycle between, shifts by one bit; the bit shifted out goes to C, zero (ASL, LSR) or the old C (ROL, ROR) comes in; N and
Z come from the result. A memory form leaves `A` alone; nothing else changes. -/
def Obligations.ShiftsAndRotates : Prop :=
  EncodedBy aslForm [(.zp, 0x06), (.zpx, 0x16), (.abs, 0x0E), (.abx, 0x1E)] ∧
  EncodedBy lsrForm [(.zp, 0x46), (.zpx, 0x56), (.abs, 0x4E), (.abx, 0x5E)] ∧
  EncodedBy rolForm [(.zp, 0x26), (.zpx, 0x36), (.abs, 0x2E), (.abx, 0x3E)] ∧
  EncodedBy rorForm [(.zp, 0x66), (.zpx, 0x76), (.abs, 0x6E), (.abx, 0x7E)] ∧
  [Instr.aslAcc, .lsrAcc, .rolAcc, .rorAcc].map encode = [[0x0A], [0x4A], [0x2A], [0x6A]] ∧
  (∀ (i : Instr) (s : State) (r out : Nat),
      let c := (s.p.getLsbD flagC).toNat
      (i = .aslAcc ∧ r = s.a.toNat * 2 % 256 ∧ out = s.a.toNat / 128) ∨
        (i = .lsrAcc ∧ r = s.a.toNat / 2 ∧ out = s.a.toNat % 2) ∨
        (i = .rolAcc ∧ r = s.a.toNat * 2 % 256 + c ∧ out = s.a.toNat / 128) ∨
        (i = .rorAcc ∧ r = s.a.toNat / 2 + 128 * c ∧ out = s.a.toNat % 2) →
      ∃ t, exec i s = .next t ∧ t.a.toNat = r ∧ t.p.getLsbD flagC = decide (out = 1) ∧
        t.p.getLsbD flagZ = decide (r = 0) ∧ t.p.getLsbD flagN = decide (128 ≤ r) ∧
        (∀ k, k ≠ flagC → k ≠ flagZ → k ≠ flagN → t.p.getLsbD k = s.p.getLsbD k) ∧ SameXYS s t ∧ t.pc = s.pc + 1 ∧
        Quiet s s.tick t) ∧
  ∀ (o : Operand) (i : Instr) (s : State) (r : Byte) (out : Nat),
    let c := (s.p.getLsbD flagC).toNat
    let e := effAddr .writeType o s
    let m := e.2.read e.1
    (aslForm o = some i ∧ r.toNat = m.1.toNat * 2 % 256 ∧ out = m.1.toNat / 128) ∨
      (lsrForm o = some i ∧ r.toNat = m.1.toNat / 2 ∧ out = m.1.toNat % 2) ∨
      (rolForm o = some i ∧ r.toNat = m.1.toNat * 2 % 256 + c ∧ out = m.1.toNat / 128) ∨
      (rorForm o = some i ∧ r.toNat = m.1.toNat / 2 + 128 * c ∧ out = m.1.toNat % 2) →
    ∃ t, exec i s = .next t ∧ t.p.getLsbD flagC = decide (out = 1) ∧ t.p.getLsbD flagZ = decide (r = 0) ∧
      t.p.getLsbD flagN = r.getLsbD 7 ∧
      (∀ k, k ≠ flagC → k ≠ flagZ → k ≠ flagN → t.p.getLsbD k = s.p.getLsbD k) ∧ t.a = s.a ∧ SameXYS s t ∧
      t.pc = s.pc + BitVec.ofNat 16 o.len ∧ Stored s (m.2.tick.write e.1 r) t e.1 r

/-! ### Control flow -/

/-- R160, R161: JMP absolute goes to its operand with no further cycle; JMP indirect reads the low byte at the
pointer and the high byte at the next address inside the pointer's page. No register, flag or memory changes. -/
def Obligations.JumpsGoToTheirTarget : Prop :=
  (∀ w : Word, encode (.jmpAbs w) = [0x4C, loByte w, hiByte w] ∧ encode (.jmpInd w) = [0x6C, loByte w, hiByte w]) ∧
  (∀ (w : Word) (s : State), ∃ t, exec (.jmpAbs w) s = .next t ∧ t.pc = w ∧ t.a = s.a ∧ SameXYS s t ∧ t.p = s.p ∧
      Quiet s s t) ∧
    ∀ (w h : Word) (s : State), hiByte h = hiByte w → (loByte h).toNat = ((loByte w).toNat + 1) % 256 →
      let lo := s.read w
      let hi := lo.2.read h
      ∃ t, exec (.jmpInd w) s = .next t ∧ t.pc = wordOf lo.1 hi.1 ∧ t.a = s.a ∧ SameXYS s t ∧ t.p = s.p ∧
        Quiet s hi.2 t

/-- R162, R163: JSR pushes the address of its own last byte, high byte first, and jumps; RTS pulls a word, low byte
first, and goes to the address after it. No flag and no other register changes, and no other byte of memory. The order
of JSR's operand reads and the place of RTS's bare cycles are the spec's decisions D9 and D21 (log 30). -/
def Obligations.CallAndReturn : Prop :=
  (∀ w : Word, encode (.jsr w) = [0x20, loByte w, hiByte w]) ∧ encode .rts = [0x60] ∧
  (∀ (w : Word) (s : State),
      ∃ t, exec (.jsr w) s = .next t ∧ t.pc = w ∧ t.sp = s.sp - 2 ∧ t.a = s.a ∧ t.x = s.x ∧ t.y = s.y ∧ t.p = s.p ∧
        OutsideAs (s.tick.pushWord (s.pc + 2)) t ∧ Pushed s t [hiByte (s.pc + 2), loByte (s.pc + 2)]) ∧
    ∀ (lo hi : Byte) (s : State), s.byteAt (stackAddr (s.sp + 1)) = some lo →
      s.byteAt (stackAddr (s.sp + 2)) = some hi →
      ∃ t, exec .rts s = .next t ∧ t.pc = wordOf lo hi + 1 ∧ t.sp = s.sp + 2 ∧ t.a = s.a ∧ t.x = s.x ∧ t.y = s.y ∧
        t.p = s.p ∧ Quiet s (State.ticks 5 s) t

/-- R162, R163: an RTS executed with the stack pointer as the JSR left it, and the two bytes it pushed in place, goes
to the instruction after the JSR with the stack pointer restored (logs 26, 30 as for the two instructions). -/
def Obligations.ReturnAfterCallGoesToTheNextInstruction : Prop :=
  ∀ (w : Word) (s t u r : State), exec (.jsr w) s = .next t → u.sp = t.sp →
    u.byteAt (stackAddr s.sp) = t.byteAt (stackAddr s.sp) →
    u.byteAt (stackAddr (s.sp - 1)) = t.byteAt (stackAddr (s.sp - 1)) → exec .rts u = .next r →
    r.pc = s.pc + 3 ∧ r.sp = s.sp

/-- R73, R164 to R172: each branch tests its one flag. Not taken: `PC` is the next instruction's address and no cycle
passes. Taken: `PC` is that address plus the offset byte read as a signed number, and one cycle passes, two when the
target lies in another page than the next instruction (the spec's decision D8, log 30). No flag, register or memory
changes. -/
def Obligations.BranchesTestOneFlag : Prop :=
  ∀ (i : Instr) (op : Byte) (s : State) (f : Nat) (v : Bool) (b : Byte),
    (i, op, f, v) ∈ [(.bcc b, 0x90, flagC, false), (.bcs b, 0xB0, flagC, true), (.beq b, 0xF0, flagZ, true),
      (.bne b, 0xD0, flagZ, false), (.bmi b, 0x30, flagN, true), (.bpl b, 0x10, flagN, false),
      (.bvc b, 0x50, flagV, false), (.bvs b, 0x70, flagV, true)] →
    encode i = [op, b] ∧ ∃ t, exec i s = .next t ∧ t.a = s.a ∧ SameXYS s t ∧ t.p = s.p ∧
      (s.p.getLsbD f ≠ v → t.pc.toNat = (s.pc.toNat + 2) % 65536 ∧ Quiet s s t) ∧
      (s.p.getLsbD f = v → (t.pc.toNat : Int) = (s.pc.toNat + 2 + b.toInt) % 65536 ∧
        Quiet s (State.ticks (if hiByte t.pc = hiByte (s.pc + 2) then 1 else 2) s) t)

/-! ### Stack, flags, NOP, traps -/

/-- R180, R181: PHA pushes `A`; PHP pushes `P` with bits 4 and 5 set. One cycle, then the push; no flag and no
register but `SP` changes. -/
def Obligations.PushInstructions : Prop :=
  ∀ (i : Instr) (op : Byte) (s : State) (v : Byte),
    (i = .pha ∧ op = 0x48 ∧ v = s.a) ∨ (i = .php ∧ op = 0x08 ∧ v = s.p ||| 0x30) →
    encode i = [op] ∧ ∃ t, exec i s = .next t ∧ t.a = s.a ∧ t.x = s.x ∧ t.y = s.y ∧ t.sp = s.sp - 1 ∧ t.p = s.p ∧
      t.pc = s.pc + 1 ∧ OutsideAs (s.tick.push v) t ∧ Pushed s t [v]

/-- R182, R183: PLA and PLP pull the byte above `SP` after two cycles. PLA puts it in `A` and sets N and Z from it;
PLP loads `P` with bit 4 forced to 0 and bit 5 to 1. -/
def Obligations.PullInstructions : Prop :=
  encode .pla = [0x68] ∧ encode .plp = [0x28] ∧
  ∀ (s : State) (v : Byte), s.byteAt (stackAddr (s.sp + 1)) = some v →
    (∃ t, exec .pla s = .next t ∧ t.a = v ∧ NZFrom s.p v t.p ∧ t.x = s.x ∧ t.y = s.y ∧ t.sp = s.sp + 1 ∧
        t.pc = s.pc + 1 ∧ Quiet s (State.ticks 3 s) t) ∧
      ∃ t, exec .plp s = .next t ∧ t.p.getLsbD flagB = false ∧ t.p.getLsbD flagB5 = true ∧
        (∀ k, k ≠ flagB → k ≠ flagB5 → t.p.getLsbD k = v.getLsbD k) ∧ t.a = s.a ∧ t.x = s.x ∧ t.y = s.y ∧
        t.sp = s.sp + 1 ∧ t.pc = s.pc + 1 ∧ Quiet s (State.ticks 3 s) t

/-- R184 to R190: each flag instruction writes its one flag, in one cycle after the fetch, and nothing else. -/
def Obligations.FlagInstructionsWriteOneFlag : Prop :=
  ∀ (i : Instr) (op : Byte) (f : Nat) (v : Bool) (s : State),
    (i, op, f, v) ∈ [(.clc, 0x18, flagC, false), (.sec, 0x38, flagC, true), (.cli, 0x58, flagI, false),
      (.sei, 0x78, flagI, true), (.clv, 0xB8, flagV, false), (.cld, 0xD8, flagD, false), (.sed, 0xF8, flagD, true)] →
    encode i = [op] ∧ ∃ t, exec i s = .next t ∧ BitFrom s.p t.p f v ∧ t.a = s.a ∧ SameXYS s t ∧ t.pc = s.pc + 1 ∧
      Quiet s s.tick t

/-- R191, R208, R209, R210: NOP and the implied *NOP variants pass one cycle; the variants with an operand read it
and discard it. No register, flag or memory changes. Which variants there are and that they read is the spec's
decision D2 (log 18). -/
def Obligations.NopsChangeNothing : Prop :=
  impliedNops.map encode = [[0xEA], [0x1A], [0x3A], [0x5A], [0x7A], [0xDA], [0xFA]] ∧
  (∀ (o : Operand) (i : Instr), i ∈ nopForms o ↔ ∃ op, (o.mode, op) ∈ [(.imm, 0x80), (.zp, 0x04), (.zp, 0x44),
    (.zp, 0x64), (.zpx, 0x14), (.zpx, 0x34), (.zpx, 0x54), (.zpx, 0x74), (.zpx, 0xD4), (.zpx, 0xF4), (.abs, 0x0C),
    (.abx, 0x1C), (.abx, 0x3C), (.abx, 0x5C), (.abx, 0x7C), (.abx, 0xDC), (.abx, 0xFC)] ∧ encode i = op :: o.bytes) ∧
  (∀ i ∈ impliedNops, ∀ s : State, ∃ t, exec i s = .next t ∧ t.a = s.a ∧ SameXYS s t ∧ t.p = s.p ∧
      t.pc = s.pc + 1 ∧ Quiet s s.tick t) ∧
    ∀ (o : Operand) (s : State), ∀ i ∈ nopForms o, ∃ t, exec i s = .next t ∧ t.a = s.a ∧ SameXYS s t ∧ t.p = s.p ∧
      t.pc = s.pc + BitVec.ofNat 16 o.len ∧ Quiet s (readOp o s).2 t

/-- R192, R227: BRK: one cycle, then the address two after the opcode and `P` with bits 4 and 5 set go to the stack;
`I` is set and no other flag; `PC` is the word two read cycles fetch at $FFFE; nothing else changes. `r` is the state
after the pushes. All but the pushed status bits is the spec's decision D10 (log 19). -/
def Obligations.BreakEntersTheTrapHandler : Prop :=
  encode .brk = [0x00] ∧ ∀ s : State,
    let r := (s.tick.pushWord (s.pc + 2)).push (s.p ||| 0x30)
    ∃ t, exec .brk s = .next t ∧ t.pc = (r.readWord 0xFFFE).1 ∧ OutsideAs (r.readWord 0xFFFE).2 t ∧
      t.cycle = s.cycle + 6 ∧ t.a = s.a ∧ t.x = s.x ∧ t.y = s.y ∧ t.sp = s.sp - 3 ∧ BitFrom s.p t.p flagI true ∧
      Pushed s t [hiByte (s.pc + 2), loByte (s.pc + 2), s.p ||| 0x30]

/-- R193, R228: RTI pulls `P`, with bit 4 forced to 0 and bit 5 to 1, then the low and the high byte of `PC`, and
resumes exactly there; nothing else changes. Where the bare cycles fall is the spec's decision D21 (log 30). -/
def Obligations.ReturnFromInterrupt : Prop :=
  encode .rti = [0x40] ∧ ∀ (b lo hi : Byte) (s : State), s.byteAt (stackAddr (s.sp + 1)) = some b →
    s.byteAt (stackAddr (s.sp + 2)) = some lo → s.byteAt (stackAddr (s.sp + 3)) = some hi →
    ∃ t, exec .rti s = .next t ∧ t.pc = wordOf lo hi ∧ t.sp = s.sp + 3 ∧ t.p.getLsbD flagB = false ∧
      t.p.getLsbD flagB5 = true ∧ (∀ k, k ≠ flagB → k ≠ flagB5 → t.p.getLsbD k = b.getLsbD k) ∧ t.a = s.a ∧
      t.x = s.x ∧ t.y = s.y ∧ Quiet s (State.ticks 5 s) t

/-- R192, R193, R222, R227, R228: an RTI executed with the stack pointer as the entry left it, and the three bytes it
pushed in place, restores `SP` and the whole of `P`, and resumes at the instruction the NMI was taken before, or two
bytes after the BRK (logs 19, 30 as for the entries and the return). -/
def Obligations.ReturnUndoesTrapEntry : Prop :=
  ∀ s t u r : State, StatusWf s.p → u.sp = t.sp →
    (∀ k, k < 3 → u.byteAt (stackAddr (s.sp - BitVec.ofNat 8 k)) = t.byteAt (stackAddr (s.sp - BitVec.ofNat 8 k))) →
    exec .rti u = .next r →
    (s.ppu.pendingNmi = true → step s = .next t → r.p = s.p ∧ r.sp = s.sp ∧ r.pc = s.pc) ∧
      (exec .brk s = .next t → r.p = s.p ∧ r.sp = s.sp ∧ r.pc = s.pc + 2)

/-! ### Undocumented opcodes -/

/-- R200 to R207, R211: the combined opcodes. *LAX loads `A` and `X` with the byte read; *SAX stores `A & X`; *DCP
decrements the byte and compares `A` with it; *ISB increments it and subtracts it from `A`; *SLO, *RLA, *SRE shift it,
with C from the shift, and OR, AND or EOR it into `A`; *RRA rotates it and adds it with the bit rotated out as carry in;
$EB is SBC immediate. No other register and no byte outside a stored cell changes. That these bytes are admitted is the
spec's decision D2 (log 18). -/
def Obligations.UndocumentedCombinations : Prop :=
  EncodedBy laxForm [(.zp, 0xA7), (.zpy, 0xB7), (.abs, 0xAF), (.aby, 0xBF), (.izx, 0xA3), (.izy, 0xB3)] ∧
  EncodedBy saxForm [(.zp, 0x87), (.zpy, 0x97), (.abs, 0x8F), (.izx, 0x83)] ∧
  EncodedBy dcpForm [(.zp, 0xC7), (.zpx, 0xD7), (.abs, 0xCF), (.abx, 0xDF), (.aby, 0xDB), (.izx, 0xC3),
    (.izy, 0xD3)] ∧
  EncodedBy isbForm [(.zp, 0xE7), (.zpx, 0xF7), (.abs, 0xEF), (.abx, 0xFF), (.aby, 0xFB), (.izx, 0xE3),
    (.izy, 0xF3)] ∧
  EncodedBy sloForm [(.zp, 0x07), (.zpx, 0x17), (.abs, 0x0F), (.abx, 0x1F), (.aby, 0x1B), (.izx, 0x03),
    (.izy, 0x13)] ∧
  EncodedBy rlaForm [(.zp, 0x27), (.zpx, 0x37), (.abs, 0x2F), (.abx, 0x3F), (.aby, 0x3B), (.izx, 0x23),
    (.izy, 0x33)] ∧
  EncodedBy sreForm [(.zp, 0x47), (.zpx, 0x57), (.abs, 0x4F), (.abx, 0x5F), (.aby, 0x5B), (.izx, 0x43),
    (.izy, 0x53)] ∧
  EncodedBy rraForm [(.zp, 0x67), (.zpx, 0x77), (.abs, 0x6F), (.abx, 0x7F), (.aby, 0x7B), (.izx, 0x63),
    (.izy, 0x73)] ∧
  (∀ (o : Operand) (i : Instr) (s : State), laxForm o = some i →
      let m := readOp o s
      ∃ t, exec i s = .next t ∧ t.a = m.1 ∧ t.x = m.1 ∧ NZFrom s.p m.1 t.p ∧ t.y = s.y ∧ t.sp = s.sp ∧
        t.pc = s.pc + BitVec.ofNat 16 o.len ∧ Quiet s m.2 t) ∧
    (∀ (o : Operand) (i : Instr) (s : State), saxForm o = some i →
      let e := effAddr .writeType o s
      let v := s.a &&& s.x
      ∃ t, exec i s = .next t ∧ t.a = s.a ∧ SameXYS s t ∧ t.p = s.p ∧ t.pc = s.pc + BitVec.ofNat 16 o.len ∧
        Stored s (e.2.write e.1 v) t e.1 v) ∧
    (∀ (b : Byte) (s : State), encode (.sbcImmEB b) = [0xEB, b] ∧
      ∃ t, exec (.sbcImmEB b) s = .next t ∧ exec (.sbcImm b) s = .next t) ∧
    ∀ (o : Operand) (i : Instr) (s : State) (r : Byte) (P : State → Prop),
      let c := s.p.getLsbD flagC
      let e := effAddr .writeType o s
      let m := e.2.read e.1
      (dcpForm o = some i ∧ r = m.1 - 1 ∧ P = fun t => t.a = s.a ∧ CompareFlags s.p s.a r t.p) ∨
        (isbForm o = some i ∧ r = m.1 + 1 ∧
          P = fun t => t.a.toNat = (s.a.toNat + (~~~r).toNat + c.toNat) % 256 ∧ AddFlags s.p s.a (~~~r) t.p) ∨
        (sloForm o = some i ∧ r = m.1 <<< 1 ∧
          P = fun t => t.a = s.a ||| r ∧ NZFrom (setBit s.p flagC (m.1.getLsbD 7)) t.a t.p) ∨
        (rlaForm o = some i ∧ r.toNat = m.1.toNat * 2 % 256 + c.toNat ∧
          P = fun t => t.a = s.a &&& r ∧ NZFrom (setBit s.p flagC (m.1.getLsbD 7)) t.a t.p) ∨
        (sreForm o = some i ∧ r = m.1 >>> 1 ∧
          P = fun t => t.a = s.a ^^^ r ∧ NZFrom (setBit s.p flagC (m.1.getLsbD 0)) t.a t.p) ∨
        (rraForm o = some i ∧ r.toNat = m.1.toNat / 2 + 128 * c.toNat ∧
          P = fun t => t.a.toNat = (s.a.toNat + r.toNat + m.1.toNat % 2) % 256 ∧
            AddFlags (setBit s.p flagC (m.1.getLsbD 0)) s.a r t.p) →
      ∃ t, exec i s = .next t ∧ P t ∧ SameXYS s t ∧ t.pc = s.pc + BitVec.ofNat 16 o.len ∧
        Stored s (m.2.tick.write e.1 r) t e.1 r

/-- R212: each of the 29 unknown opcodes logs its byte and its address and skips one byte: no cycle after the opcode
fetch, no register, flag or memory change. That it costs no further cycle is the spec's decision D6 (log 18). -/
def Obligations.UnknownOpcodesLogAndSkip : Prop :=
  ∀ (i : Instr) (op : Byte) (s : State), (i, op) ∈ unknownForms →
    exec i s = .next { s with pc := s.pc + 1, log := .unknownOpcode op s.pc :: s.log }

/-! ### OAM DMA and the picture unit's ports -/

/-- R44: a write of `page` to $4014, by whichever instruction makes it, is the write cycle, one wait cycle, one more
when the counter is then odd, and 256 pairs of a read cycle in the page and a write cycle to $2004, whatever the page
holds. Where the page is plain storage those reads have no side effect: its 256 bytes land in OAM from OAMADDR on,
wrapping, OAMADDR comes back, 513 or 514 cycles pass after the write cycle, and nothing else changes but what time
itself changes: no CPU register, no byte of plain storage or of a `FLAT32`, no controller, no log entry, no register
of the picture unit that only a port writes; the audio unit makes its ticks, and with rendering disabled the picture
unit makes its dots and nothing more. STA absolute is one such instruction and then goes on. The parity and the way
through OAMDATA are the spec's decision D16, that the write's tick comes first is D4 (logs 9, 11). -/
def Obligations.OamDmaCopiesThePage : Prop :=
  (∀ (s : State) (page : Byte),
      s.write 0x4014 page =
        (List.range 256).foldl
          (fun u k =>
            let b := u.read (BitVec.ofNat 16 (256 * page.toNat + k))
            b.2.write 0x2004 b.1)
          (State.ticks (2 + (s.cycle + 1) % 2) s)) ∧
    (∀ s : State, exec (.staAbs 0x4014) s = .next { s.write 0x4014 s.a with pc := s.pc + 3 }) ∧
    ∀ (s : State) (page : Byte) (byte : Nat → Byte),
      (∀ k, k < 256 → s.byteAt (wordOf (BitVec.ofNat 8 k) page) = some (byte k)) →
      let n := 514 + (s.cycle + 1) % 2
      let t := s.write 0x4014 page
      (∀ k, k < 256 → t.ppu.oam.read ((s.ppu.oamAddr.toNat + k) % 256) = byte k) ∧ t.ppu.oamAddr = s.ppu.oamAddr ∧
        t.cycle = s.cycle + n ∧ (∀ a, t.byteAt a = s.byteAt a) ∧ (∀ f, s.cart = .flat32 f → t.cart = s.cart) ∧
        t.ram = s.ram ∧ t.pads = s.pads ∧ t.log = s.log ∧ t.apu = apuTick^[n] s.apu ∧ t.a = s.a ∧ SameXYS s t ∧
        t.p = s.p ∧ t.pc = s.pc ∧ t.ppu.vram = s.ppu.vram ∧ t.ppu.pal = s.ppu.pal ∧ t.ppu.ctrl = s.ppu.ctrl ∧
        t.ppu.mask = s.ppu.mask ∧ t.ppu.t = s.ppu.t ∧ t.ppu.x = s.ppu.x ∧ t.ppu.w = s.ppu.w ∧
        t.ppu.readBuffer = s.ppu.readBuffer ∧
        (s.ppu.rendering = false → t.ppu = { (State.ticks n s).ppu with oam := t.ppu.oam } ∧ t.cart = s.cart)

/-- R39, R45, R255: a read cycle of PPUSTATUS at any of its mirrors returns the three flags as they are after the
cycle's dots in bits 7, 6 and 5 and 0 in the others; it clears `vblank` and `w` and nothing else, `pending_nmi`
included. The bit places and the absent race are the spec's decision D38 (log 32). -/
def Obligations.StatusReadClearsVblankAndToggle : Prop :=
  ∀ (s : State) (a : Word), 0x2000 ≤ a → a ≤ 0x3FFF → a.toNat % 8 = 2 →
    let r := s.read a
    r.1.getLsbD 7 = s.tick.ppu.vblank ∧ r.1.getLsbD 6 = s.tick.ppu.sprite0Hit ∧
      r.1.getLsbD 5 = s.tick.ppu.spriteOverflow ∧ (∀ k, k < 5 → r.1.getLsbD k = false) ∧
      r.2 = { s.tick with ppu := { s.tick.ppu with vblank := false, w := false } }

/-- R39, R252, R253, R268: a write cycle of PPUCTRL at any of its mirrors stores the byte, copies its low two bits to
bits 11 and 10 of `t`, and raises `pending_nmi` exactly on a 0 to 1 change of NMI-enable while `vblank` is 1; a
latched edge is never cleared; nothing else changes. `u` is the unit after the cycle's three dots, which come before
the write by the default of `TICK_ORDER` (D4, log 9). The bit places and what clears the edge are the spec's decisions
D30 and D46 (log 32). -/
def Obligations.ControlWriteAndNmiRetrigger : Prop :=
  ∀ (s : State) (a : Word) (b : Byte), 0x2000 ≤ a → a ≤ 0x3FFF → a.toNat % 8 = 0 →
    let u := s.tick.ppu
    ∃ u', s.write a b = { s.tick with ppu := u' } ∧ u' = { u with ctrl := b, t := u'.t, pendingNmi := u'.pendingNmi } ∧
      (∀ k, u'.t.getLsbD k = if k = 10 then b.getLsbD 0 else if k = 11 then b.getLsbD 1 else u.t.getLsbD k) ∧
      u'.pendingNmi = (u.pendingNmi || (!u.ctrl.getLsbD 7 && b.getLsbD 7 && u.vblank))

/-- R251, R254, R256, R257, R258, R259: the write ports but PPUCTRL and PPUDATA. PPUMASK stores its byte, of which bits
3 and 4 enable rendering; OAMADDR sets the pointer; OAMDATA stores at the pointer and moves it on by one mod 256, and
its read returns the byte there and changes nothing; PPUSTATUS cannot be written. With the toggle at 0, two PPUSCROLL
writes set coarse X and fine X, then coarse Y and fine Y, of `t` and `x`, keep the nametable bits and do not touch `v`;
two PPUADDR writes make `v` and `t` the 14-bit address; either pair brings the toggle back to 0. Nothing else changes in
any of them. The mask's bits, the pointer's moves and the bit assembly are the spec's decisions D30, D39 and D35
(log 32). -/
def Obligations.MaskOamScrollAndAddressPorts : Prop :=
  (∀ (g : PpuSide) (b : Byte),
      let m := ppuPortWrite g 1 b
      let d := ppuPortWrite g 4 b
      m = { g with ppu := { g.ppu with mask := b } } ∧ m.ppu.rendering = (b.getLsbD 3 || b.getLsbD 4) ∧
        ppuPortWrite g 2 b = g ∧ ppuPortWrite g 3 b = { g with ppu := { g.ppu with oamAddr := b } } ∧
        d = { g with ppu := { g.ppu with oam := d.ppu.oam, oamAddr := d.ppu.oamAddr } } ∧
        d.ppu.oamAddr.toNat = (g.ppu.oamAddr.toNat + 1) % 256 ∧
        (∀ k, d.ppu.oam.read k = if k = g.ppu.oamAddr.toNat then b else g.ppu.oam.read k) ∧
        ppuPortRead g 4 = (g.ppu.oam.read g.ppu.oamAddr.toNat, g)) ∧
    ∀ (g : PpuSide) (b1 b2 : Byte), g.ppu.w = false →
      let r := ppuPortWrite (ppuPortWrite g 5 b1) 5 b2
      let q := ppuPortWrite (ppuPortWrite g 6 b1) 6 b2
      r = { g with ppu := { g.ppu with t := r.ppu.t, x := r.ppu.x } } ∧ r.ppu.x.toNat = b1.toNat % 8 ∧
        r.ppu.t.toNat % 32 = b1.toNat / 8 ∧ r.ppu.t.toNat / 32 % 32 = b2.toNat / 8 ∧
        r.ppu.t.toNat / 1024 % 4 = g.ppu.t.toNat / 1024 % 4 ∧ r.ppu.t.toNat / 4096 = b2.toNat % 8 ∧
        q = { g with ppu := { g.ppu with t := q.ppu.t, v := q.ppu.v } } ∧ q.ppu.v = q.ppu.t ∧
        q.ppu.v.toNat = b1.toNat % 64 * 256 + b2.toNat

/-- R252, R259, R260, R261: the data port, at the address `v mod $4000`. A read below $3F00 returns the buffer and
refills it; a palette read returns the palette byte at once and fills the buffer with the nametable byte under it; a
write is not buffered. Each moves `v` by 1 or 32 mod $8000 and changes no other register of the unit; a read changes
none of its memories. The buffer's detail is the spec's decision D36 (log 32). -/
def Obligations.DataPortReadsAndWrites : Prop :=
  ∀ (g : PpuSide) (b : Byte),
    let a := vAddr g.ppu
    let v' := BitVec.ofNat 15 (g.ppu.v.toNat + if g.ppu.ctrl.getLsbD 2 then 32 else 1)
    let r := ppuPortRead g 7
    let w := ppuPortWrite g 7 b
    a.toNat = g.ppu.v.toNat % 16384 ∧
      r.2.ppu = { g.ppu with v := v', readBuffer := r.2.ppu.readBuffer } ∧
      (a.toNat < 0x3F00 → r.1 = g.ppu.readBuffer ∧ r.2.ppu.readBuffer = (ppuMemRead g a).1) ∧
      (0x3F00 ≤ a.toNat → r.1 = g.ppu.pal.read (palIndex (a.setWidth 5)).toNat ∧
        r.2.ppu.readBuffer = (ppuMemRead g (a - 0x1000)).1) ∧
      w.ppu = { g.ppu with v := v', vram := w.ppu.vram, pal := w.ppu.pal } ∧ w.cart = (ppuMemWrite g a b).cart ∧
      ∀ c, (ppuMemRead w c).1 = (ppuMemRead (ppuMemWrite g a b) c).1

/-! ### The dot machine -/

/-- R262, R264, R265, R266, R268: what a dot does to the flags the CPU and the host watch, rendering or not: `vblank`
is set at (241, 1), where `pending_nmi` is latched when NMI-enable is 1; `vblank` and the two sprite flags are cleared
at (-1, 1); `frame_ready` is set at (240, 0); at every other position the three are unchanged. The places of the
clearing and of `frame_ready` are the spec's decisions D33 and D34 (logs 12, 32). -/
def Obligations.VblankNmiAndFrameReadyEvents : Prop :=
  ∀ g : PpuSide,
    let u := g.ppu
    let q := (ppuTick g).ppu
    q.vblank =
        (if u.scanline = 241 ∧ u.dot = 1 then true else if u.scanline = -1 ∧ u.dot = 1 then false else u.vblank) ∧
      q.pendingNmi = (u.pendingNmi || (decide (u.scanline = 241 ∧ u.dot = 1) && u.ctrl.getLsbD 7)) ∧
      q.frameReady = (u.frameReady || decide (u.scanline = 240 ∧ u.dot = 0)) ∧
      (u.scanline = -1 ∧ u.dot = 1 → q.sprite0Hit = false ∧ q.spriteOverflow = false)

/-- R19, R231, R263: every dot moves the position on by one, from dot 340 to the next line and from line 260 to -1, where
`odd_frame` toggles; dot 340 of the pre-render line is skipped when the frame is odd and rendering is enabled. So from
(-1, 0) a frame takes 89342 dots back to (-1, 0), or one less. No dot writes a memory or a port register of the unit. The
skip is the spec's decision D32 (log 32). -/
def Obligations.DotPositionAndFrameLength : Prop :=
  (∀ g : PpuSide,
      let u := g.ppu
      let q := (ppuTick g).ppu
      let skips := u.scanline = -1 ∧ u.dot = 339 ∧ u.oddFrame = true ∧ u.rendering = true
      let lineEnds := 340 ≤ u.dot ∨ skips
      q.dot = (if lineEnds then 0 else u.dot + 1) ∧
        q.scanline = (if lineEnds then if 260 ≤ u.scanline then -1 else u.scanline + 1 else u.scanline) ∧
        q.oddFrame = (if lineEnds ∧ 260 ≤ u.scanline then !u.oddFrame else u.oddFrame) ∧
        q.vram = u.vram ∧ q.pal = u.pal ∧ q.oam = u.oam ∧ q.oamAddr = u.oamAddr ∧ q.ctrl = u.ctrl ∧ q.mask = u.mask ∧
        q.t = u.t ∧ q.x = u.x ∧ q.w = u.w ∧ q.readBuffer = u.readBuffer) ∧
    ∀ g : PpuSide, g.ppu.scanline = -1 → g.ppu.dot = 0 →
      let q := (ppuTick^[if g.ppu.oddFrame && g.ppu.rendering then 89341 else 89342] g).ppu
      q.scanline = -1 ∧ q.dot = 0 ∧ q.oddFrame = !g.ppu.oddFrame

/-- R262, R267: "no pixel emission occurs, no v-increments happen, and sprite-0-hit cannot be set": with rendering
disabled, and on scanlines 240 to 260 in any case, a dot leaves the framebuffer, `v`, the shift registers, the sprite
units, secondary OAM and the cartridge alone, sets neither sprite flag and skips no dot; what may change is the position
and the flags of R264 to R266. That show-bg and show-sprites are bits 3 and 4 of the mask is the spec's decision D30
(log 32). -/
def Obligations.DarkDotDrawsAndFetchesNothing : Prop :=
  ∀ g : PpuSide, (g.ppu.mask.getLsbD 3 = false ∧ g.ppu.mask.getLsbD 4 = false) ∨ 240 ≤ g.ppu.scanline →
    let q := ppuTick g
    q.cart = g.cart ∧
      q.ppu = { g.ppu with
        dot := q.ppu.dot, scanline := q.ppu.scanline, oddFrame := q.ppu.oddFrame, vblank := q.ppu.vblank,
        pendingNmi := q.ppu.pendingNmi, frameReady := q.ppu.frameReady, sprite0Hit := q.ppu.sprite0Hit,
        spriteOverflow := q.ppu.spriteOverflow } ∧
      q.ppu.dot = (if g.ppu.dot + 1 > 340 then 0 else g.ppu.dot + 1) ∧
      (q.ppu.sprite0Hit = true → g.ppu.sprite0Hit = true) ∧
      (q.ppu.spriteOverflow = true → g.ppu.spriteOverflow = true)

/-- R270, R271, R272, R346: the palette and nametable mirrors. A palette byte written through one address is read back
through every address with the same entry, $10, $14, $18 and $1C being $00, $04, $08 and $0C; a nametable byte
through every address with the same bank and offset under the cartridge's mirroring. A read of these changes nothing,
and a write nothing but the one memory. Below $2000 the memory is the cartridge's own, and so are the nametables where
its mirroring is four-screen; of a `FLAT32` it is `chr`. The nametable formulas are the spec's decision D37 (log 32),
`FLAT32` its D23 (log 1). -/
def Obligations.PaletteAndNametableMirrors : Prop :=
  let entry : Nat → Nat := fun n => if n % 32 ∈ [16, 20, 24, 28] then n % 16 else n % 32
  let cell : Mirroring → Nat → Nat := fun mir n => match mir with
    | .horizontal => n / 2048 % 2 * 1024 + n % 1024
    | .vertical => n / 1024 % 2 * 1024 + n % 1024
    | .singleScreenB => 1024 + n % 1024
    | _ => n % 1024
  ∀ (g : PpuSide) (a c : BitVec 14) (b : Byte),
    let w := ppuMemWrite g a b
    (0x3F00 ≤ a ∨ (0x2000 ≤ a ∧ g.cart.mirroring ≠ .fourScreen) → (ppuMemRead g a).2 = g) ∧
      (0x3F00 ≤ a → w = { g with ppu := { g.ppu with pal := w.ppu.pal } }) ∧
      (g.cart.mirroring ≠ .fourScreen → 0x2000 ≤ a → a < 0x3F00 →
        w = { g with ppu := { g.ppu with vram := w.ppu.vram } }) ∧
      (a < 0x2000 → ppuMemRead g a = ((g.cart.ppuRead a).1, { g with cart := (g.cart.ppuRead a).2 }) ∧
        w = { g with cart := g.cart.ppuWrite a b }) ∧
      (g.cart.mirroring = .fourScreen → 0x2000 ≤ a → a < 0x3F00 →
        let e := BitVec.ofNat 14 (0x2000 + a.toNat % 4096)
        ppuMemRead g a = ((g.cart.ppuRead e).1, { g with cart := (g.cart.ppuRead e).2 }) ∧
          w = { g with cart := g.cart.ppuWrite e b }) ∧
      (∀ f, g.cart = .flat32 f → a < 0x2000 → ppuMemRead g a = (f.chr.read a.toNat, g) ∧
        (c < 0x2000 → (ppuMemRead w c).1 = if a = c then b else (ppuMemRead g c).1)) ∧
      (0x3F00 ≤ a → 0x3F00 ≤ c → (ppuMemRead w c).1 =
        if entry a.toNat = entry c.toNat then b else (ppuMemRead g c).1) ∧
      (g.cart.mirroring ≠ .fourScreen → 0x2000 ≤ a → a < 0x3F00 → 0x2000 ≤ c → c < 0x3F00 →
        (ppuMemRead w c).1 =
          if cell g.cart.mirroring a.toNat = cell g.cart.mirroring c.toNat then b else (ppuMemRead g c).1)

/-- R259, R273 to R278: the background pipeline on a rendering dot (scanlines -1 to 239). `fetching` is dots 1 to 256
and 321 to 336, `ph` the place in the 8-dot sequence. The registers shift at every fetching dot; the nametable byte, the
two attribute bits and the two pattern bytes are read at `ph` 1, 3, 5 and 7, each from the address its rule gives, and
at no other dot; at `ph` 7 the low halves and the latches are reloaded and coarse X moves; fine Y moves at dot 256; the
horizontal bits of `v` come from `t` at dot 257 and the vertical ones at dots 280 to 304 of the pre-render line. The two
moves in fields: coarse X wraps at 31 into a flip of bit 10; fine Y carries into coarse Y, which wraps at 29 into a
flip of bit 11 and at 31 without one. The details are the spec's decision D40 (log 32). -/
def Obligations.BackgroundPipelineOfARenderingDot : Prop :=
  (∀ v : BitVec 15,
      let n := v.toNat
      let h := (coarseXIncrement v).toNat
      let y := (yIncrement v).toNat
      h % 32 = (n % 32 + 1) % 32 ∧ (h / 1024 % 2 = if n % 32 = 31 then 1 - n / 1024 % 2 else n / 1024 % 2) ∧
        h / 32 % 32 = n / 32 % 32 ∧ h / 2048 = n / 2048 ∧
        y % 32 = n % 32 ∧ y / 1024 % 2 = n / 1024 % 2 ∧ y / 4096 = (n / 4096 + 1) % 8 ∧
        (y / 32 % 32 =
          if n / 4096 < 7 then n / 32 % 32
          else if n / 32 % 32 = 29 ∨ n / 32 % 32 = 31 then 0 else n / 32 % 32 + 1) ∧
        (y / 2048 % 2 = if n / 4096 = 7 ∧ n / 32 % 32 = 29 then 1 - n / 2048 % 2 else n / 2048 % 2)) ∧
    ∀ g : PpuSide, g.ppu.rendering = true → -1 ≤ g.ppu.scanline → g.ppu.scanline ≤ 239 →
      let u := g.ppu
      let q := (ppuTick g).ppu
      let fetching := (1 ≤ u.dot ∧ u.dot ≤ 256) ∨ (321 ≤ u.dot ∧ u.dot ≤ 336)
      let ph := (u.dot - 1) % 8
      let n := u.v.toNat
      let tile := (u.ctrl.getLsbD 4).toNat * 4096 + u.ntByte.toNat * 16 + n / 4096
      let addr :=
        if ph = 1 then 0x2000 + n % 4096
        else if ph = 3 then 0x23C0 + n / 1024 % 4 * 1024 + n / 128 % 8 * 8 + n / 4 % 8
        else if ph = 5 then tile
        else tile + 8
      let got := ppuMemRead g (BitVec.ofNat 14 addr)
      let reloaded := fun (r : BitVec 16) (b : Byte) =>
        if ph = 7 then r.toNat * 2 % 65536 / 256 * 256 + b.toNat else r.toNat * 2 % 65536
      let v1 := if fetching ∧ ph = 7 then coarseXIncrement u.v else u.v
      let v2 := if u.dot = 256 then yIncrement v1 else v1
      let fromT := fun k : Nat =>
        if k < 5 ∨ k = 10 then u.dot = 257 else u.scanline = -1 ∧ 280 ≤ u.dot ∧ u.dot ≤ 304
      q.ntByte = (if fetching ∧ ph = 1 then got.1 else u.ntByte) ∧
        q.atBits.toNat =
          (if fetching ∧ ph = 3 then got.1.toNat / 2 ^ (n / 64 % 2 * 4 + n / 2 % 2 * 2) % 4 else u.atBits.toNat) ∧
        q.patLo = (if fetching ∧ ph = 5 then got.1 else u.patLo) ∧
        q.patHi = (if fetching ∧ ph = 7 then got.1 else u.patHi) ∧
        (fetching → (ppuTick g).cart = if ph % 2 = 1 then got.2.cart else g.cart) ∧
        (¬ fetching → (264 ≤ u.dot ∧ u.dot ≤ 320 ∧ u.dot % 8 = 0) ∨ (ppuTick g).cart = g.cart) ∧
        (fetching →
          q.bgPatLo.toNat = reloaded u.bgPatLo u.patLo ∧ q.bgPatHi.toNat = reloaded u.bgPatHi q.patHi ∧
            q.bgAttrLo.toNat = u.bgAttrLo.toNat * 2 % 256 + u.atLatchLo.toNat ∧
            q.bgAttrHi.toNat = u.bgAttrHi.toNat * 2 % 256 + u.atLatchHi.toNat ∧
            q.atLatchLo = (if ph = 7 then u.atBits.getLsbD 0 else u.atLatchLo) ∧
            q.atLatchHi = (if ph = 7 then u.atBits.getLsbD 1 else u.atLatchHi)) ∧
        (¬ fetching →
          q.bgPatLo = u.bgPatLo ∧ q.bgPatHi = u.bgPatHi ∧ q.bgAttrLo = u.bgAttrLo ∧ q.bgAttrHi = u.bgAttrHi ∧
            q.atLatchLo = u.atLatchLo ∧ q.atLatchHi = u.atLatchHi) ∧
        (∀ k, q.v.getLsbD k = if fromT k then u.t.getLsbD k else v2.getLsbD k) ∧ q.t = u.t ∧ q.x = u.x ∧ q.w = u.w

/-- R19, R280, R281, R282: the sprites of a line. Evaluation, at dot 257 of a rendering line and at no other: secondary
OAM holds, in OAM order, the first eight of the sprites whose rows cover the line, each with its four bytes and its
index; overflow is set when there are more than eight and evaluation never clears it; on the pre-render line nothing is
selected. Output unit `i` is loaded whole at dot `264 + 8i`, from the row of the pattern its two flips and the sprite
size give, or made invalid where the slot is empty, which reads nothing; at each visible dot every valid unit counts
down, or shifts once its counter is 0; at other dots the units are unchanged. The one-dot evaluation and the fetch are
the spec's decisions D41 and D42 (logs 29, 32). -/
def Obligations.SpriteEvaluationFetchAndUnits : Prop :=
  (∀ u : Ppu,
      let h : Int := if u.ctrl.getLsbD 5 then 16 else 8
      let covers := fun n : Nat =>
        (u.oam.read (4 * n)).toNat ≤ u.scanline ∧ u.scanline < (u.oam.read (4 * n)).toNat + h
      let q := spriteEvaluate u
      q = { u with sec := q.sec, spriteOverflow := q.spriteOverflow } ∧
        (u.scanline = -1 → q.sec = [] ∧ q.spriteOverflow = u.spriteOverflow) ∧
        (0 ≤ u.scanline →
          (∀ e ∈ q.sec, covers e.id.toNat ∧ e.y = u.oam.read (4 * e.id.toNat) ∧
            e.tile = u.oam.read (4 * e.id.toNat + 1) ∧ e.attr = u.oam.read (4 * e.id.toNat + 2) ∧
            e.x = u.oam.read (4 * e.id.toNat + 3)) ∧
          q.sec.Pairwise (fun e e' => e.id.toNat < e'.id.toNat) ∧ q.sec.length ≤ 8 ∧
          (∀ n, n < 64 → covers n → (∀ e ∈ q.sec, e.id.toNat ≠ n) →
            q.sec.length = 8 ∧ q.spriteOverflow = true ∧ ∀ e ∈ q.sec, e.id.toNat < n) ∧
          (u.spriteOverflow = true → q.spriteOverflow = true) ∧
          (q.spriteOverflow = true → u.spriteOverflow = true ∨
            ∃ n, n < 64 ∧ covers n ∧ ∀ e ∈ q.sec, e.id.toNat ≠ n))) ∧
    ∀ g : PpuSide, g.ppu.rendering = true → -1 ≤ g.ppu.scanline → g.ppu.scanline ≤ 239 → g.ppu.spr.length = 8 →
      let u := g.ppu
      let q := (ppuTick g).ppu
      let loads := fun i : Nat => u.dot = 264 + 8 * i
      q.sec = (if u.dot = 257 then (spriteEvaluate u).sec else u.sec) ∧
        (u.dot = 257 → q.spriteOverflow = (spriteEvaluate u).spriteOverflow) ∧
        (u.dot ≠ 257 → ¬ (u.scanline = -1 ∧ u.dot = 1) → q.spriteOverflow = u.spriteOverflow) ∧
        (∀ i un, i < 8 → u.spr[i]? = some un →
          (0 ≤ u.scanline ∧ 1 ≤ u.dot ∧ u.dot ≤ 256 → ∃ un', q.spr[i]? = some un' ∧
            un' = { un with lo := un'.lo, hi := un'.hi, xcnt := un'.xcnt } ∧
            un'.xcnt.toNat = (if un.valid then un.xcnt.toNat - 1 else un.xcnt.toNat) ∧
            un'.lo.toNat = (if un.valid ∧ un.xcnt = 0 then un.lo.toNat * 2 % 256 else un.lo.toNat) ∧
            un'.hi.toNat = (if un.valid ∧ un.xcnt = 0 then un.hi.toNat * 2 % 256 else un.hi.toNat)) ∧
          (¬ (0 ≤ u.scanline ∧ 1 ≤ u.dot ∧ u.dot ≤ 256) → ¬ loads i → q.spr[i]? = some un) ∧
          (loads i → u.sec[i]? = none → q.spr[i]? = some { un with valid := false } ∧ (ppuTick g).cart = g.cart)) ∧
        ∀ i e, i < 8 → loads i → u.sec[i]? = some e →
          let h : Nat := if u.ctrl.getLsbD 5 then 16 else 8
          let below := ((u.scanline - e.y.toNat) % (h : Int)).toNat
          let row := if e.attr.getLsbD 7 then h - 1 - below else below
          let addr :=
            if h = 8 then (u.ctrl.getLsbD 3).toNat * 4096 + e.tile.toNat * 16 + row
            else e.tile.toNat % 2 * 4096 + (e.tile.toNat / 2 * 2 + row / 8) * 16 + row % 8
          let lo := ppuMemRead g (BitVec.ofNat 14 addr)
          let hi := ppuMemRead lo.2 (BitVec.ofNat 14 (addr + 8))
          ∃ un, q.spr[i]? = some un ∧ (ppuTick g).cart = hi.2.cart ∧ un.attr = e.attr ∧ un.xcnt = e.x ∧ un.id = e.id ∧
            un.valid = true ∧
            ∀ k, k < 8 → un.lo.getLsbD k = lo.1.getLsbD (if e.attr.getLsbD 6 then 7 - k else k) ∧
              un.hi.getLsbD k = hi.1.getLsbD (if e.attr.getLsbD 6 then 7 - k else k)

/-- R262, R267, R279, R282, R283, R285: a dot emits one pixel, at its own place, and only on a visible line, dots 1 to
256, with rendering enabled; every other word of the framebuffer is kept. The background's colour is bit `15 - x` of
the two pattern registers and its palette bit `7 - x` of the two attribute registers; the sprite is the first output
unit in unit order that is active and opaque, its colour bit 7 of its two bytes, its palette bits 1 and 0 and its
priority bit 5 of its attribute byte; each layer is transparent while its show bit is 0 and, in columns 0 to 7, while
its left-edge bit is. The pixel is the sprite's colour where the background shows none or the sprite's priority bit is
0, else the background's, else the universal colour: the palette byte at `$10 + 4q + c`, `4q + c` or 0, its low six
bits through `PALETTE`, ANDed with $30 in greyscale. The mask's bits, the multiplexer's polarity and the colour's form
are the spec's decisions D30, D43 and D45 (logs 13, 32). -/
def Obligations.EachVisibleDotEmitsOnePixel : Prop :=
  ∀ (g : PpuSide) (row col : Nat), col < 256 →
    let u := g.ppu
    let x := u.x.toNat
    let shows := fun (showBit edgeBit : Nat) =>
      u.mask.getLsbD showBit && (decide (8 ≤ col) || u.mask.getLsbD edgeBit)
    let two := fun lo hi : Bool => lo.toNat + 2 * hi.toNat
    let bc := if shows 3 1 then two (u.bgPatLo.getLsbD (15 - x)) (u.bgPatHi.getLsbD (15 - x)) else 0
    let bq := two (u.bgAttrLo.getLsbD (7 - x)) (u.bgAttrHi.getLsbD (7 - x))
    let front := if shows 4 2 then
        u.spr.find? fun un => un.valid && decide (un.xcnt = 0) && (un.lo.getLsbD 7 || un.hi.getLsbD 7)
      else none
    let entry := match front with
      | none => if bc = 0 then 0 else 4 * bq + bc
      | some un =>
        if bc = 0 ∨ un.attr.getLsbD 5 = false then
          16 + 4 * (un.attr.toNat % 4) + two (un.lo.getLsbD 7) (un.hi.getLsbD 7)
        else 4 * bq + bc
    let c : BitVec 6 := (u.pal.read entry).setWidth 6
    (ppuTick g).ppu.fbWord row col =
      if u.rendering = true ∧ 0 ≤ u.scanline ∧ u.scanline ≤ 239 ∧ u.scanline = row ∧ 1 ≤ u.dot ∧ u.dot = col + 1 then
        Config.palette (if u.mask.getLsbD 0 then c &&& 0x30 else c)
      else u.fbWord row col

/-- R262, R265, R267, R279, R282, R284: the sprite-0-hit flag after a dot, exactly. It is cleared at (-1, 1); else it is
1 when it was, or when the dot emits a pixel of column 1 to 254 of a visible line, show-bg and show-sprites are both on
and, in columns 0 to 7, both left-edge masks open, the background is opaque there, and the first output unit with an
opaque pixel there is sprite 0's. That the range is of pixel columns is the spec's decision D44, the mask's bits its
D30 (log 32). -/
def Obligations.SpriteZeroHitExactlyAtTheOverlap : Prop :=
  ∀ g : PpuSide,
    let u := g.ppu
    let shows := fun un : SprUnit => un.valid = true ∧ un.xcnt = 0 ∧ (un.lo.getLsbD 7 || un.hi.getLsbD 7) = true
    (ppuTick g).ppu.sprite0Hit = true ↔
      (u.sprite0Hit = true ∧ ¬ (u.scanline = -1 ∧ u.dot = 1)) ∨
        (0 ≤ u.scanline ∧ u.scanline ≤ 239 ∧ 2 ≤ u.dot ∧ u.dot ≤ 255 ∧ u.mask.getLsbD 3 = true ∧
          u.mask.getLsbD 4 = true ∧ (u.dot ≤ 8 → u.mask.getLsbD 1 = true ∧ u.mask.getLsbD 2 = true) ∧
          (u.bgPatLo.getLsbD (15 - u.x.toNat) || u.bgPatHi.getLsbD (15 - u.x.toNat)) = true ∧
          ∃ (i : Nat) (un : SprUnit), u.spr[i]? = some un ∧ shows un ∧ un.id = 0 ∧
            ∀ j un', j < i → u.spr[j]? = some un' → ¬ shows un')

/-! ### The audio unit -/

/-- R300 to R309, R312, R316: the audio unit's ports. Each register of a channel writes the fields of its table and
nothing else: register 1 nothing, register 0 the duty, halt and volume or the control and linear reload, register 2 the
low eight bits of the period (of the noise its mode and table period), register 3 the high three bits, the length, and
the pulse's position or the triangle's reload flag; the timer itself is never written. A length is the table's when the
channel is enabled and unchanged when it is not. $4010 to $4013 do nothing. The $4015 write enables channels 0 to 3 and
clears the length counter of each it disables, and its read shows the counters that are not 0; the $4017 write takes
bit 7 as the mode and restarts the frame counter, with a quarter and a half frame at once in 5-step mode. The layouts,
tables and bit places are the spec's decisions D50, D51, D53, D54 and D59 (log 34). -/
def Obligations.AudioPortsWriteTheirFields : Prop :=
  ∀ (u : Apu) (b : Byte),
    let n := b.toNat
    let table : List Nat :=
      [10, 254, 20, 2, 40, 4, 80, 6, 160, 8, 60, 10, 14, 12, 26, 14, 12, 16, 24, 18, 48, 20, 96, 22, 192, 24, 72, 26,
        16, 28, 32, 30]
    let periods : List Nat := [1, 3, 7, 15, 31, 47, 63, 79, 100, 126, 189, 253, 380, 507, 1016, 2033]
    let length := fun (on : Bool) (old new : Byte) => if on then table[n / 8]? = some new.toNat else new = old
    let pulse := fun (ch : Pulse) (w : Nat → Pulse) =>
      w 0 = { ch with duty := (w 0).duty, halt := b.getLsbD 5, volume := (w 0).volume } ∧
        (w 0).duty.toNat = n / 64 ∧ (w 0).volume.toNat = n % 16 ∧ w 1 = ch ∧
        w 2 = { ch with timerLoad := (w 2).timerLoad } ∧ (w 2).timerLoad.toNat = ch.timerLoad.toNat / 256 * 256 + n ∧
        w 3 = { ch with timerLoad := (w 3).timerLoad, lengthValue := (w 3).lengthValue, pos := 0 } ∧
        (w 3).timerLoad.toNat = n % 8 * 256 + ch.timerLoad.toNat % 256 ∧
        length ch.enabled ch.lengthValue (w 3).lengthValue
    let triangle := fun (ch : Triangle) (w : Nat → Triangle) =>
      w 0 = { ch with control := b.getLsbD 7, linearReload := (w 0).linearReload } ∧
        (w 0).linearReload.toNat = n % 128 ∧ w 1 = ch ∧ w 2 = { ch with timerLoad := (w 2).timerLoad } ∧
        (w 2).timerLoad.toNat = ch.timerLoad.toNat / 256 * 256 + n ∧
        w 3 = { ch with timerLoad := (w 3).timerLoad, lengthValue := (w 3).lengthValue, reloadLinear := true } ∧
        (w 3).timerLoad.toNat = n % 8 * 256 + ch.timerLoad.toNat % 256 ∧
        length ch.enabled ch.lengthValue (w 3).lengthValue
    let noise := fun (ch : Noise) (w : Nat → Noise) =>
      w 0 = { ch with halt := b.getLsbD 5, volume := (w 0).volume } ∧ (w 0).volume.toNat = n % 16 ∧ w 1 = ch ∧
        w 2 = { ch with mode := b.getLsbD 7, timerLoad := (w 2).timerLoad } ∧
        periods[n % 16]? = some (w 2).timerLoad.toNat ∧ w 3 = { ch with lengthValue := (w 3).lengthValue } ∧
        length ch.enabled ch.lengthValue (w 3).lengthValue
    let wr := fun a r : Nat => apuWrite u (BitVec.ofNat 16 (a + r)) b
    let enable := fun (k : Nat) (on : Bool) (old new : Byte) =>
      on = b.getLsbD k ∧ new = if b.getLsbD k then old else 0
    let e := apuWrite u 0x4015 b
    let f := { u with fcMode5 := b.getLsbD 7, fcDiv := 0, fcStep := 0 }
    let st := apuStatusRead u
    (∀ r, r < 4 → wr 0x4000 r = { u with p1 := (wr 0x4000 r).p1 } ∧ wr 0x4004 r = { u with p2 := (wr 0x4004 r).p2 } ∧
        wr 0x4008 r = { u with tri := (wr 0x4008 r).tri } ∧ wr 0x400C r = { u with ns := (wr 0x400C r).ns } ∧
        wr 0x4010 r = u) ∧
      pulse u.p1 (fun r => (wr 0x4000 r).p1) ∧ pulse u.p2 (fun r => (wr 0x4004 r).p2) ∧
      triangle u.tri (fun r => (wr 0x4008 r).tri) ∧ noise u.ns (fun r => (wr 0x400C r).ns) ∧
      (e = { u with
          p1 := { u.p1 with enabled := e.p1.enabled, lengthValue := e.p1.lengthValue }
          p2 := { u.p2 with enabled := e.p2.enabled, lengthValue := e.p2.lengthValue }
          tri := { u.tri with enabled := e.tri.enabled, lengthValue := e.tri.lengthValue }
          ns := { u.ns with enabled := e.ns.enabled, lengthValue := e.ns.lengthValue } }) ∧
      enable 0 e.p1.enabled u.p1.lengthValue e.p1.lengthValue ∧
      enable 1 e.p2.enabled u.p2.lengthValue e.p2.lengthValue ∧
      enable 2 e.tri.enabled u.tri.lengthValue e.tri.lengthValue ∧
      enable 3 e.ns.enabled u.ns.lengthValue e.ns.lengthValue ∧
      st.getLsbD 0 = (u.p1.lengthValue != 0) ∧ st.getLsbD 1 = (u.p2.lengthValue != 0) ∧
      st.getLsbD 2 = (u.tri.lengthValue != 0) ∧ st.getLsbD 3 = (u.ns.lengthValue != 0) ∧
      (∀ k, 4 ≤ k → st.getLsbD k = false) ∧
      apuWrite u 0x4017 b = if b.getLsbD 7 then halfFrame (quarterFrame f) else f

/-- R310 to R315, R320: one APU tick flips the parity, clocks the triangle, clocks both pulses and the noise on every
other tick, and then the frame counter and the sampler, in this order. A channel's timer counts down and its unit
advances once in `timer + 1` clocks, when the timer is reloaded: the duty position by one mod 8, the triangle's by one
mod 32 while both its counters are not 0, the LFSR by one shift with bit 0 XOR bit 1 (bit 6 in mode 1) fed back into
bit 14, never to 0. A pulse's output is plus or minus its volume as `DUTY` says, and 0 exactly when its length counter
is 0 or its period below 8 or its volume 0; the triangle's is `TRI` less 7; the noise's its volume while bit 0 of the
LFSR is 0. The sample is 256 times the sum of the outputs and never clips. Which ticks clock the pulses and the noise
and the reload at zero are the spec's decision D52 (log 15), the two tables its D51 (log 34), the scales parameters of
the spec at its own defaults (D55, log 14). -/
def Obligations.AudioTickChannelsAndMix : Prop :=
  let duty : List (List Nat) :=
    [[0, 1, 0, 0, 0, 0, 0, 0], [0, 1, 1, 0, 0, 0, 0, 0], [0, 1, 1, 1, 1, 0, 0, 0], [1, 0, 0, 1, 1, 1, 1, 1]]
  let tri : List Int :=
    [15, 14, 13, 12, 11, 10, 9, 8, 7, 6, 5, 4, 3, 2, 1, 0, 0, 1, 2, 3, 4, 5, 6, 7, 8, 9, 10, 11, 12, 13, 14, 15]
  (∀ u : Apu, apuTick u = sampleStep (frameStep { u with
      parity := !u.parity, tri := triStep u.tri, p1 := if u.parity then pulseStep u.p1 else u.p1,
      p2 := if u.parity then pulseStep u.p2 else u.p2, ns := if u.parity then noiseStep u.ns else u.ns })) ∧
    (∀ ch : Pulse,
      (∀ k, k ≤ ch.timer.toNat → pulseStep^[k] ch = { ch with timer := BitVec.ofNat 11 (ch.timer.toNat - k) }) ∧
        pulseStep^[ch.timer.toNat + 1] ch = { ch with timer := ch.timerLoad, pos := ch.pos + 1 } ∧
        ∃ row d, duty[ch.duty.toNat]? = some row ∧ row[ch.pos.toNat]? = some d ∧
          pulseOut ch =
            if ch.lengthValue = 0 ∨ ch.timerLoad.toNat < 8 then 0
            else if d = 1 then (ch.volume.toNat : Int)
            else -(ch.volume.toNat : Int)) ∧
    (∀ ch : Triangle,
      (∀ k, k ≤ ch.timer.toNat → triStep^[k] ch = { ch with timer := BitVec.ofNat 11 (ch.timer.toNat - k) }) ∧
        triStep^[ch.timer.toNat + 1] ch =
          { ch with
            timer := ch.timerLoad,
            pos := if ch.lengthValue ≠ 0 ∧ ch.linearCounter ≠ 0 then ch.pos + 1 else ch.pos } ∧
        tri[ch.pos.toNat]? = some (triOut ch + 7)) ∧
    (∀ ch : Noise,
      let n := ch.lfsr.toNat
      let r := noiseStep^[ch.timer.toNat + 1] ch
      (∀ k, k ≤ ch.timer.toNat → noiseStep^[k] ch = { ch with timer := BitVec.ofNat 12 (ch.timer.toNat - k) }) ∧
        r = { ch with timer := ch.timerLoad, lfsr := r.lfsr } ∧
        r.lfsr.toNat = n / 2 + 16384 * ((n + n / (if ch.mode then 64 else 2)) % 2) ∧ (n ≠ 0 → r.lfsr ≠ 0) ∧
        noiseOut ch = if ch.lfsr.getLsbD 0 then 0 else ch.volume.toNat) ∧
    ∀ u : Apu,
      (mix u).toInt = 256 * (pulseOut u.p1 + pulseOut u.p2 + triOut u.tri + noiseOut u.ns)

/-- R317, R318, R319: the frame counter. The divider counts 7457 ticks; each time it runs out, step `k` of the 4-step
sequence makes a quarter frame, steps 1 and 3 a half frame too, of the 5-step one steps 0, 1, 2, 4 a quarter frame and
steps 1 and 4 a half frame, and the next step follows. So a whole sequence from its start, 29828 or 37285 ticks, makes
four quarter frames and two half frames. A quarter frame clocks the triangle's linear counter and a half frame the four
length counters, and they change nothing else. Which steps are which and what they clock is the spec's decision D53
(log 34). -/
def Obligations.FrameCounterSequence : Prop :=
  (∀ u : Apu, u.fcDiv = 0 → u.fcStep = 0 →
      frameStep^[if u.fcMode5 then 37285 else 29828] u =
        halfFrame (quarterFrame (quarterFrame (halfFrame (quarterFrame (quarterFrame u)))))) ∧
    (∀ (u : Apu) (n : Nat), u.fcDiv = 0 → n < 7457 → frameStep^[n] u = { u with fcDiv := n }) ∧
    (∀ (u : Apu), u.fcDiv = 0 → u.fcStep < (if u.fcMode5 then 5 else 4) →
      let k := u.fcStep
      let q := if u.fcMode5 ∧ k = 3 then u else quarterFrame u
      let r := if k = 1 ∨ k = (if u.fcMode5 then 4 else 3) then halfFrame q else q
      frameStep^[7457] u = { r with fcStep := (k + 1) % (if u.fcMode5 then 5 else 4) }) ∧
    ∀ u : Apu,
      let q := quarterFrame u
      let h := halfFrame u
      let clocked := fun (halted : Bool) (old new : Byte) => new.toNat = if halted then old.toNat else old.toNat - 1
      q = { u with tri := { u.tri with linearCounter := q.tri.linearCounter, reloadLinear := q.tri.reloadLinear } } ∧
        q.tri.linearCounter.toNat =
          (if u.tri.reloadLinear then u.tri.linearReload.toNat else u.tri.linearCounter.toNat - 1) ∧
        q.tri.reloadLinear = (u.tri.reloadLinear && u.tri.control) ∧
        h = { u with
          p1 := { u.p1 with lengthValue := h.p1.lengthValue }
          p2 := { u.p2 with lengthValue := h.p2.lengthValue }
          tri := { u.tri with lengthValue := h.tri.lengthValue }
          ns := { u.ns with lengthValue := h.ns.lengthValue } } ∧
        clocked u.p1.halt u.p1.lengthValue h.p1.lengthValue ∧ clocked u.p2.halt u.p2.lengthValue h.p2.lengthValue ∧
        clocked u.tri.control u.tri.lengthValue h.tri.lengthValue ∧
        clocked u.ns.halt u.ns.lengthValue h.ns.lengthValue

/-- R322, R323, R324, R325, R326: the ring is a first-in first-out queue of at most 4095 samples. A push appends unless the
ring is full, when it changes nothing; the consumer removes the oldest samples, as many as it asks for and there are,
in order. The two interleave push by push, inside a step too: when a tick emits a sample, the consumer's next turn comes
first and may make the room. So "no sample is read twice and no sample is ever reordered": what the host has, followed
by what is queued, only ever grows at its end. A tick
adds 100 to the accumulator and emits the mix when that reaches 4058, which it then takes off. The full
test and the integer accumulator are the spec's decisions D57 and D56 (log 34), the turns the model's form of the
consumer (log 22). -/
def Obligations.RingBufferIsABoundedQueue : Prop :=
  ∀ (u : Apu) (x : BitVec 16) (n : Nat),
    let queued := fun w : Apu => (drainSamples 4096 w).1
    let emitted := sampleStep u
    let left := (queued u).drop (u.consumer.turns.headD 0)
    (queued u).length ≤ 4095 ∧ ((queued u).length < 4095 → queued (ringPush u x) = queued u ++ [x]) ∧
      ((queued u).length = 4095 → ringPush u x = u) ∧ (drainSamples n u).1 = (queued u).take n ∧
      queued (drainSamples n u).2 = (queued u).drop n ∧
      (consumerRemoves n u).consumer.out ++ queued (consumerRemoves n u) = u.consumer.out ++ queued u ∧
      (3958 ≤ u.acc →
        emitted = { u with
          acc := u.acc + 100 - 4058, ring := emitted.ring, widx := emitted.widx, ridx := emitted.ridx,
          consumer := emitted.consumer } ∧
        emitted.consumer.turns = u.consumer.turns.tail ∧
          emitted.consumer.out = u.consumer.out ++ (queued u).take (u.consumer.turns.headD 0) ∧
          queued emitted = if left.length < 4095 then left ++ [mix u] else left) ∧
      (u.acc < 3958 → emitted = { u with acc := u.acc + 100 })

/-! ### Controllers -/

/-- R340 to R343: a 1 then a 0 written to $4016 latch both controllers; successive reads of either return its eight
buttons in order, A first, and 1 from the ninth on; with the strobe at 1 every read returns the A button as it is
held. A read changes that controller's shift register alone: the other's, both controllers' buttons and the strobe stay.
It goes right by one with a 1 entering at bit 7, or with the strobe at 1 is loaded from the buttons; a write changes
the strobe, and with a 1 both shift registers. The upper bits and the open strobe are the spec's decision D60 (log 8). -/
def Obligations.ControllerReadsShiftOutTheButtons : Prop :=
  (∀ (u : Pads) (b : Byte), padStrobe u b = { u with
      strobe := b.getLsbD 0
      shift0 := if b.getLsbD 0 then u.buttons0 else u.shift0
      shift1 := if b.getLsbD 0 then u.buttons1 else u.shift1 }) ∧
    (∀ u : Pads,
      let after := fun shift buttons : Byte =>
        if u.strobe then buttons else BitVec.ofNat 8 (shift.toNat / 2 + 128)
      let bit := fun shift buttons : Byte => (if u.strobe then buttons else shift) &&& 1
      padRead u false = (bit u.shift0 u.buttons0, { u with shift0 := after u.shift0 u.buttons0 }) ∧
        padRead u true = (bit u.shift1 u.buttons1, { u with shift1 := after u.shift1 u.buttons1 })) ∧
    ∀ (u : Pads) (b1 b0 : Byte) (second : Bool) (k : Nat), b1.getLsbD 0 = true → b0.getLsbD 0 = false →
      let held := if second then u.buttons1 else u.buttons0
      let rd := fun p : Pads => padRead p second
      (rd ((fun p => (rd p).2)^[k] (padStrobe (padStrobe u b1) b0))).1 = (if k < 8 then (held >>> k) &&& 1 else 1) ∧
        (rd ((fun p => (rd p).2)^[k] (padStrobe u b1))).1 = held &&& 1
end

