-- ==== Sys2Proof/Laws/Memory.lean ====
section
/-! SUPPORT. The laws of sparse tables and byte memory: read after write, a write leaves other keys alone, and
every operation keeps the canonical form. -/

namespace Sys2Proof.Machine

variable {β : Type}

theorem sparseGet_erase_self (d : β) (m : Sparse β) (k : Nat) : sparseGet d (sparseErase k m) k = d := by
  induction m with
  | nil => rfl
  | cons e m ih => by_cases h : e.1 = k <;> simp [sparseErase, sparseGet, h, ih]

theorem sparseGet_erase_other (d : β) (m : Sparse β) {j k : Nat} (h : j ≠ k) :
    sparseGet d (sparseErase k m) j = sparseGet d m j := by
  induction m with
  | nil => rfl
  | cons e m ih =>
    by_cases hk : e.1 = k
    · have hj : e.1 ≠ j := fun hj => h (hj.symm.trans hk)
      simp [sparseErase, sparseGet, hk, ih, h.symm]
    · simp [sparseErase, sparseGet, hk, ih]

theorem sparseGet_insert_self (d v : β) (m : Sparse β) (k : Nat) (hm : sparseErase k m = m) :
    sparseGet d (sparseInsert k v m) k = v := by
  induction m with
  | nil => simp [sparseInsert, sparseGet]
  | cons e m ih =>
    by_cases hk : e.1 = k
    · have hlen : ∀ l : Sparse β, (sparseErase k l).length ≤ l.length := by
        intro l
        induction l with
        | nil => simp [sparseErase]
        | cons e l ihl => by_cases h : e.1 = k <;> simp [sparseErase, h] <;> omega
      have := congrArg List.length hm
      have h2 := hlen m
      simp [sparseErase, hk] at this
      omega
    · simp only [sparseErase, hk, if_false, List.cons.injEq, true_and] at hm
      by_cases hlt : k < e.1
      · simp [sparseInsert, sparseGet, hlt]
      · simp [sparseInsert, sparseGet, hlt, hk, ih hm]

theorem sparseGet_insert_other (d v : β) (m : Sparse β) {j k : Nat} (h : j ≠ k) :
    sparseGet d (sparseInsert k v m) j = sparseGet d m j := by
  induction m with
  | nil => simp [sparseInsert, sparseGet, h.symm]
  | cons e m ih =>
    by_cases hlt : k < e.1
    · simp [sparseInsert, sparseGet, hlt, h.symm]
    · simp only [sparseInsert, hlt, if_false, sparseGet, ih]

theorem sparseErase_idem (m : Sparse β) (k : Nat) : sparseErase k (sparseErase k m) = sparseErase k m := by
  induction m with
  | nil => rfl
  | cons e m ih => by_cases h : e.1 = k <;> simp [sparseErase, h, ih]

theorem sparseErase_keys_ne (k : Nat) (m : Sparse β) : ∀ e ∈ sparseErase k m, e.1 ≠ k := by
  induction m with
  | nil => simp [sparseErase]
  | cons e m ih =>
    by_cases hk : e.1 = k
    · simpa [sparseErase, hk] using ih
    · intro e' he'
      simp only [sparseErase, hk, if_false, List.mem_cons] at he'
      rcases he' with rfl | he'
      · exact hk
      · exact ih _ he'

variable [DecidableEq β]

/-- Reading the key just stored gives the value stored. -/
@[simp] theorem sparseGet_set_self (d : β) (m : Sparse β) (k : Nat) (v : β) :
    sparseGet d (sparseSet d m k v) k = v := by
  by_cases h : v = d
  · subst h
    simp [sparseSet, sparseGet_erase_self]
  · simp [sparseSet, h, sparseGet_insert_self, sparseErase_idem]

/-- Storing one key leaves every other key alone. -/
theorem sparseGet_set_other (d : β) (m : Sparse β) {j k : Nat} (h : j ≠ k) (v : β) :
    sparseGet d (sparseSet d m k v) j = sparseGet d m j := by
  by_cases hv : v = d
  · simp [sparseSet, hv, sparseGet_erase_other _ _ h]
  · simp [sparseSet, hv, sparseGet_insert_other _ _ _ h, sparseGet_erase_other _ _ h]

theorem sparseWfFrom_mono (d : β) (n : Nat) {lo lo' : Nat} (hle : lo' ≤ lo) (m : Sparse β)
    (h : sparseWfFrom d n lo m = true) : sparseWfFrom d n lo' m = true := by
  cases m with
  | nil => rfl
  | cons e m => simp [sparseWfFrom] at h ⊢; exact ⟨⟨⟨by omega, h.1.1.2⟩, h.1.2⟩, h.2⟩

theorem sparseErase_wfFrom (d : β) (n k : Nat) (m : Sparse β) :
    ∀ lo, sparseWfFrom d n lo m = true → sparseWfFrom d n lo (sparseErase k m) = true := by
  induction m with
  | nil => intro lo h; exact h
  | cons e m ih =>
    intro lo h
    simp only [sparseWfFrom, Bool.and_eq_true, decide_eq_true_eq] at h
    by_cases hk : e.1 = k
    · simp only [sparseErase, hk, if_true]
      exact sparseWfFrom_mono d n (by omega) _ (ih _ h.2)
    · simp only [sparseErase, hk, if_false, sparseWfFrom, Bool.and_eq_true, decide_eq_true_eq]
      exact ⟨h.1, ih _ h.2⟩

theorem sparseInsert_wfFrom (d : β) (n k : Nat) (v : β) (hk : k < n) (hv : v ≠ d) (m : Sparse β) :
    ∀ lo, lo ≤ k → (∀ e ∈ m, e.1 ≠ k) → sparseWfFrom d n lo m = true →
      sparseWfFrom d n lo (sparseInsert k v m) = true := by
  induction m with
  | nil => intro lo hlo _ _; simp [sparseInsert, sparseWfFrom, hk, hlo, hv]
  | cons e m ih =>
    intro lo hlo hne h
    simp only [sparseWfFrom, Bool.and_eq_true, decide_eq_true_eq] at h
    by_cases hlt : k < e.1
    · simp only [sparseInsert, hlt, if_true, sparseWfFrom, Bool.and_eq_true, decide_eq_true_eq]
      exact ⟨⟨⟨hlo, hk⟩, hv⟩, ⟨⟨⟨by omega, h.1.1.2⟩, h.1.2⟩, h.2⟩⟩
    · have hne' : e.1 ≠ k := hne e (by simp)
      simp only [sparseInsert, hlt, if_false, sparseWfFrom, Bool.and_eq_true, decide_eq_true_eq]
      exact ⟨h.1, ih _ (by omega) (fun e' he' => hne e' (by simp [he'])) h.2⟩

/-- A store inside the range keeps the canonical form. -/
theorem sparseSet_wf (d : β) (n : Nat) (m : Sparse β) (k : Nat) (v : β) (hk : k < n)
    (h : sparseWf d n m = true) : sparseWf d n (sparseSet d m k v) = true := by
  have he := sparseErase_wfFrom d n k m 0 h
  by_cases hv : v = d
  · simpa [sparseSet, hv, sparseWf] using he
  · simpa [sparseSet, hv, sparseWf] using
      sparseInsert_wfFrom d n k v hk hv _ 0 (Nat.zero_le k) (sparseErase_keys_ne k m) he

/-- A store keeps a property of the listed keys that the stored key has. -/
theorem sparseSet_keys (P : Nat → Prop) (d : β) (m : Sparse β) (k : Nat) (v : β) (hk : P k)
    (h : ∀ e ∈ m, P e.1) : ∀ e ∈ sparseSet d m k v, P e.1 := by
  have her : ∀ l : Sparse β, (∀ e ∈ l, P e.1) → ∀ e ∈ sparseErase k l, P e.1 := by
    intro l
    induction l with
    | nil => simp [sparseErase]
    | cons e l ih =>
      intro hl
      by_cases hk' : e.1 = k
      · simpa [sparseErase, hk'] using ih (fun e' he' => hl e' (by simp [he']))
      · intro e' he'
        simp only [sparseErase, hk', if_false, List.mem_cons] at he'
        rcases he' with rfl | he'
        · exact hl _ (by simp)
        · exact ih (fun e' he' => hl e' (by simp [he'])) _ he'
  have hin : ∀ l : Sparse β, (∀ e ∈ l, P e.1) → ∀ e ∈ sparseInsert k v l, P e.1 := by
    intro l
    induction l with
    | nil => intro _ e he; simp [sparseInsert] at he; subst he; exact hk
    | cons e l ih =>
      intro hl
      by_cases hlt : k < e.1
      · intro e' he'
        simp only [sparseInsert, hlt, if_true, List.mem_cons] at he'
        rcases he' with rfl | rfl | he'
        · exact hk
        · exact hl _ (by simp)
        · exact hl _ (by simp [he'])
      · intro e' he'
        simp only [sparseInsert, hlt, if_false, List.mem_cons] at he'
        rcases he' with rfl | he'
        · exact hl _ (by simp)
        · exact ih (fun e' he' => hl e' (by simp [he'])) _ he'
  by_cases hv : v = d
  · simpa [sparseSet, hv] using her m h
  · simpa [sparseSet, hv] using hin _ (her m h)

/-! ### Byte memory -/

@[simp] theorem Memory.read_write_self (m : Memory) (a : Nat) (v : Byte) : (m.write a v).read a = v :=
  sparseGet_set_self _ _ _ _

theorem Memory.read_write_other (m : Memory) {a b : Nat} (h : b ≠ a) (v : Byte) :
    (m.write a v).read b = m.read b :=
  sparseGet_set_other _ _ h _

theorem Memory.write_wf (n : Nat) (m : Memory) (a : Nat) (v : Byte) (ha : a < n) (h : m.wf n = true) :
    (m.write a v).wf n = true :=
  sparseSet_wf _ _ _ _ _ ha h

end Sys2Proof.Machine
end

