-- ==== Sys2Proof/Laws/Apu.lean ====
section
/-! SUPPORT. The audio unit keeps its ranges: the LFSR never reaches 0, the divider, the sequence position and the
accumulator stay in range, the ring stays canonical (R20, R315, R317, R322 to R324). -/

namespace Sys2Proof.Machine

/-! ### The LFSR -/

/-- The LFSR never becomes 0 (R315): a non-zero state maps to a non-zero state. -/
theorem lfsrNext_ne_zero (mode : Bool) (l : BitVec 15) (h : l ≠ 0) : lfsrNext mode l ≠ 0 := by
  intro hn
  apply h
  have hb : ∀ i, (lfsrNext mode l).getLsbD i = false := by simp [hn]
  have hup : ∀ i, 1 ≤ i → i < 15 → l.getLsbD i = false := by
    intro i h1 h2
    have := hb (i - 1)
    simp only [lfsrNext, BitVec.getLsbD_or, BitVec.getLsbD_ushiftRight, Bool.or_eq_false_iff] at this
    have hi : 1 + (i - 1) = i := by omega
    rw [hi] at this
    exact this.1
  have h14 := hb 14
  have hlow : l.getLsbD 0 = false := by
    have h1 := hup 1 (by omega) (by omega)
    have h6 := hup 6 (by omega) (by omega)
    cases mode <;> cases h0 : l.getLsbD 0 <;>
      simp_all [lfsrNext, bitOf]
  apply BitVec.eq_of_getLsbD_eq
  intro i hi
  by_cases h0 : i = 0
  · subst h0; simpa using hlow
  · simpa using hup i (by omega) hi

/-! ### Ranges -/

theorem channelStep_wf (u : Apu) (h : u.Wf) : (channelStep u).Wf := by
  obtain ⟨h1, h2, h3, h4, h5⟩ := h
  unfold channelStep; dsimp only
  split
  · refine ⟨?_, h2, h3, h4, h5⟩
    simp only [noiseStep]
    split
    · exact lfsrNext_ne_zero _ _ h1
    · exact h1
  · exact ⟨h1, h2, h3, h4, h5⟩

theorem frameStep_wf (u : Apu) (h : u.Wf) : (frameStep u).Wf := by
  obtain ⟨h1, h2, h3, h4, h5⟩ := h
  unfold frameStep frameSequence halfFrame quarterFrame; dsimp only
  split
  · split
    · rename_i hm
      refine ⟨?_, ?_, ?_, ?_, ?_⟩ <;> (split <;> split) <;>
        first | assumption | (simp only; omega)
    · rename_i hm
      refine ⟨?_, ?_, ?_, ?_, ?_⟩ <;> split <;>
        first | assumption | (simp only; omega)
  · exact ⟨h1, by simp only; omega, h3, h4, h5⟩

theorem ringPush_wf (u : Apu) (s : BitVec 16) (h : u.Wf) : (ringPush u s).Wf := by
  obtain ⟨h1, h2, h3, h4, h5⟩ := h
  unfold ringPush; split
  · exact ⟨h1, h2, h3, h4, h5⟩
  · exact ⟨h1, h2, h3, h4, sparseSet_wf _ _ _ _ _ u.widx.isLt h5⟩

/-- The consumer changes `ridx` only (R326). -/
theorem drainSamples_eq : ∀ n u, ∃ r, (drainSamples n u).2 = { u with ridx := r }
  | 0, u => ⟨u.ridx, rfl⟩
  | n + 1, u => by
    unfold drainSamples
    split
    · exact ⟨u.ridx, rfl⟩
    · obtain ⟨r, hr⟩ := drainSamples_eq n { u with ridx := u.ridx + 1 }
      exact ⟨r, by simp only [hr]⟩

/-- Removals change `ridx` and what has been handed over, and nothing else (R326). -/
theorem consumerRemoves_eq (n : Nat) (u : Apu) :
    ∃ r, consumerRemoves n u =
      { u with ridx := r, consumer := { u.consumer with out := u.consumer.out ++ (drainSamples n u).1 } } := by
  obtain ⟨r, hr⟩ := drainSamples_eq n u
  exact ⟨r, by simp only [consumerRemoves, hr]⟩

/-- The consumer's turn changes `ridx` and the consumer, and nothing else (R325). -/
theorem consumerTurn_eq (u : Apu) : ∃ r c, consumerTurn u = { u with ridx := r, consumer := c } := by
  unfold consumerTurn
  split
  · exact ⟨u.ridx, u.consumer, rfl⟩
  · rename_i n rest _
    obtain ⟨r, hr⟩ := consumerRemoves_eq n { u with consumer := { u.consumer with turns := rest } }
    exact ⟨r, _, hr⟩

theorem consumerRemoves_wf (n : Nat) (u : Apu) (h : u.Wf) : (consumerRemoves n u).Wf := by
  obtain ⟨r, hr⟩ := consumerRemoves_eq n u
  rw [hr]; exact h

theorem consumerTurn_wf (u : Apu) (h : u.Wf) : (consumerTurn u).Wf := by
  obtain ⟨r, c, hr⟩ := consumerTurn_eq u
  rw [hr]; exact h

/-- The mix reads neither the ring's indices nor the consumer, so a turn before the push leaves the sample alone. -/
@[simp] theorem mix_consumerTurn (u : Apu) : mix (consumerTurn u) = mix u := by
  obtain ⟨r, c, hr⟩ := consumerTurn_eq u
  rw [hr]; rfl

theorem sampleStep_wf (u : Apu) (h : u.Wf) : (sampleStep u).Wf := by
  obtain ⟨h1, h2, h3, h4, h5⟩ := h
  unfold sampleStep; split
  · exact ringPush_wf _ _ (consumerTurn_wf _ ⟨h1, h2, h3, by simp only; omega, h5⟩)
  · exact ⟨h1, h2, h3, by simp only; omega, h5⟩

/-- A tick keeps the unit's ranges. -/
theorem apuTick_wf (u : Apu) (h : u.Wf) : (apuTick u).Wf :=
  sampleStep_wf _ (frameStep_wf _ (channelStep_wf _ h))

/-- A port write keeps the unit's ranges. -/
theorem apuWrite_wf (u : Apu) (a : Word) (b : Byte) (h : u.Wf) : (apuWrite u a b).Wf := by
  obtain ⟨h1, h2, h3, h4, h5⟩ := h
  unfold apuWrite noiseWrite enableWrite frameWrite halfFrame quarterFrame
  repeat' split
  all_goals first
    | exact ⟨h1, h2, h3, h4, h5⟩
    | exact ⟨h1, by simp, by simp only; split <;> omega, h4, h5⟩

/-! ### What a tick does to the counters the state invariant follows -/

@[simp] theorem ringPush_parity (u : Apu) (s : BitVec 16) : (ringPush u s).parity = u.parity := by
  unfold ringPush; split <;> rfl

@[simp] theorem ringPush_acc (u : Apu) (s : BitVec 16) : (ringPush u s).acc = u.acc := by
  unfold ringPush; split <;> rfl

@[simp] theorem consumerTurn_parity (u : Apu) : (consumerTurn u).parity = u.parity := by
  obtain ⟨r, c, hr⟩ := consumerTurn_eq u; rw [hr]

@[simp] theorem consumerTurn_acc (u : Apu) : (consumerTurn u).acc = u.acc := by
  obtain ⟨r, c, hr⟩ := consumerTurn_eq u; rw [hr]

@[simp] theorem frameStep_parity (u : Apu) : (frameStep u).parity = u.parity := by
  unfold frameStep frameSequence halfFrame quarterFrame; dsimp only; repeat' split
  all_goals rfl

@[simp] theorem frameStep_acc (u : Apu) : (frameStep u).acc = u.acc := by
  unfold frameStep frameSequence halfFrame quarterFrame; dsimp only; repeat' split
  all_goals rfl

@[simp] theorem channelStep_parity (u : Apu) : (channelStep u).parity = !u.parity := by
  unfold channelStep; dsimp only; split <;> rfl

@[simp] theorem channelStep_acc (u : Apu) : (channelStep u).acc = u.acc := by
  unfold channelStep; dsimp only; split <;> rfl

/-- Each tick flips the parity bit (R310). -/
@[simp] theorem apuTick_parity (u : Apu) : (apuTick u).parity = !u.parity := by
  unfold apuTick sampleStep; split <;> simp

/-- Each tick adds 100 to the accumulator, less 4058 when a sample is emitted (R322). -/
theorem apuTick_acc (u : Apu) : (apuTick u).acc = if u.acc + 100 ≥ 4058 then u.acc + 100 - 4058 else u.acc + 100 := by
  unfold apuTick sampleStep; simp only [frameStep_acc, channelStep_acc]; split <;> simp

/-- A port write changes neither the parity bit nor the accumulator. -/
@[simp] theorem apuWrite_parity (u : Apu) (a : Word) (b : Byte) : (apuWrite u a b).parity = u.parity := by
  unfold apuWrite enableWrite frameWrite halfFrame quarterFrame; repeat' split
  all_goals rfl

@[simp] theorem apuWrite_acc (u : Apu) (a : Word) (b : Byte) : (apuWrite u a b).acc = u.acc := by
  unfold apuWrite enableWrite frameWrite halfFrame quarterFrame; repeat' split
  all_goals rfl

end Sys2Proof.Machine
end

