-- ==== Sys2Proof/Laws/Bits.lean ====
section
/-! SUPPORT. The laws of the bit-field helpers and of the flag computations: which bit each one writes, and
that it writes no other. -/

namespace Sys2Proof.Machine

/-- A bit set is that bit; every other bit is as before. -/
theorem getLsbD_setBit (p : Byte) (i : Nat) (b : Bool) (j : Nat) (hi : i < 8) :
    (setBit p i b).getLsbD j = if j = i then b else p.getLsbD j := by
  have h1 : (1#8 <<< i).getLsbD j = decide (j = i) := by
    by_cases hj : j < 8
    · interval_cases i <;> interval_cases j <;> rfl
    · have : j ≠ i := by omega
      simp [BitVec.getLsbD_of_ge _ j (by omega : 8 ≤ j), this]
  by_cases hj : j < 8
  · have h2 : i ≤ j → j - i = 0 → j = i := by omega
    by_cases hji : j = i
    · subst hji
      cases b <;> simp [setBit, hj]
    · cases b
      · simp only [setBit, Bool.false_eq_true, if_false, BitVec.getLsbD_and, BitVec.getLsbD_not, h1, hji, hj]
        simp
      · simp only [setBit, if_true, BitVec.getLsbD_or, h1, hji]
        simp
  · have : j ≠ i := by omega
    simp [BitVec.getLsbD_of_ge _ j (by omega : 8 ≤ j), this]

@[simp] theorem loByte_wordOf (lo hi : Byte) : loByte (wordOf lo hi) = lo := by
  ext i hi'
  simp [loByte, wordOf]

@[simp] theorem hiByte_wordOf (lo hi : Byte) : hiByte (wordOf lo hi) = hi := by
  ext i hi'
  have : 8 + i < 16 := by omega
  simp [hiByte, wordOf, this, BitVec.getLsbD_eq_getElem, hi']

@[simp] theorem wordOf_lo_hi (w : Word) : wordOf (loByte w) (hiByte w) = w := by
  ext i hi
  by_cases h : i < 8
  · simp [loByte, hiByte, wordOf, h, hi, BitVec.getLsbD_eq_getElem]
  · have h9 : 8 + (i - 8) = i := by omega
    have h8 : i - 8 < 8 := by omega
    simp [loByte, hiByte, wordOf, h, h8, h9, hi, BitVec.getLsbD_eq_getElem]

theorem getLsbD_setNZ (p v : Byte) (j : Nat) :
    (setNZ p v).getLsbD j = if j = flagZ then decide (v = 0) else if j = flagN then v.getLsbD 7 else p.getLsbD j := by
  simp [setNZ, getLsbD_setBit, flagN, flagZ]

/-- A pulled status has bit 5 set and bit 4 clear (R13, R183). -/
theorem pulledStatus_bits (b : Byte) :
    (pulledStatus b).getLsbD flagB5 = true ∧ (pulledStatus b).getLsbD flagB = false := by
  simp [pulledStatus, flagB5, flagB]

/-- A pulled status keeps every other bit of the byte (R183, R193). -/
theorem pulledStatus_other (b : Byte) (k : Nat) (h1 : k ≠ flagB) (h2 : k ≠ flagB5) :
    (pulledStatus b).getLsbD k = b.getLsbD k := by
  by_cases hk : k < 8
  · simp only [flagB, flagB5] at h1 h2
    have : k = 0 ∨ k = 1 ∨ k = 2 ∨ k = 3 ∨ k = 6 ∨ k = 7 := by omega
    revert b
    rcases this with rfl | rfl | rfl | rfl | rfl | rfl <;> decide
  · rw [BitVec.getLsbD_of_ge _ _ (by omega), BitVec.getLsbD_of_ge _ _ (by omega)]

end Sys2Proof.Machine
end

