-- ==== Sys2Proof/Laws/State.lean ====
section
/-! SUPPORT. One lemma per field per update of State, true by rfl, so that no later proof unfolds a record
update. -/

namespace Sys2Proof.Machine

@[simp] theorem State.ppuSide_ppu (s : State) : s.ppuSide.ppu = s.ppu := rfl
@[simp] theorem State.ppuSide_cart (s : State) : s.ppuSide.cart = s.cart := rfl

@[simp] theorem State.withPpuSide_a (s : State) (g : PpuSide) : (s.withPpuSide g).a = s.a := rfl
@[simp] theorem State.withPpuSide_x (s : State) (g : PpuSide) : (s.withPpuSide g).x = s.x := rfl
@[simp] theorem State.withPpuSide_y (s : State) (g : PpuSide) : (s.withPpuSide g).y = s.y := rfl
@[simp] theorem State.withPpuSide_sp (s : State) (g : PpuSide) : (s.withPpuSide g).sp = s.sp := rfl
@[simp] theorem State.withPpuSide_pc (s : State) (g : PpuSide) : (s.withPpuSide g).pc = s.pc := rfl
@[simp] theorem State.withPpuSide_p (s : State) (g : PpuSide) : (s.withPpuSide g).p = s.p := rfl
@[simp] theorem State.withPpuSide_cycle (s : State) (g : PpuSide) : (s.withPpuSide g).cycle = s.cycle := rfl
@[simp] theorem State.withPpuSide_ram (s : State) (g : PpuSide) : (s.withPpuSide g).ram = s.ram := rfl
@[simp] theorem State.withPpuSide_ppu (s : State) (g : PpuSide) : (s.withPpuSide g).ppu = g.ppu := rfl
@[simp] theorem State.withPpuSide_apu (s : State) (g : PpuSide) : (s.withPpuSide g).apu = s.apu := rfl
@[simp] theorem State.withPpuSide_pads (s : State) (g : PpuSide) : (s.withPpuSide g).pads = s.pads := rfl
@[simp] theorem State.withPpuSide_cart (s : State) (g : PpuSide) : (s.withPpuSide g).cart = g.cart := rfl
@[simp] theorem State.withPpuSide_log (s : State) (g : PpuSide) : (s.withPpuSide g).log = s.log := rfl

@[simp] theorem State.tick_a (s : State) : (s.tick).a = s.a := rfl
@[simp] theorem State.tick_x (s : State) : (s.tick).x = s.x := rfl
@[simp] theorem State.tick_y (s : State) : (s.tick).y = s.y := rfl
@[simp] theorem State.tick_sp (s : State) : (s.tick).sp = s.sp := rfl
@[simp] theorem State.tick_pc (s : State) : (s.tick).pc = s.pc := rfl
@[simp] theorem State.tick_p (s : State) : (s.tick).p = s.p := rfl
@[simp] theorem State.tick_cycle (s : State) : (s.tick).cycle = s.cycle + 1 := rfl
@[simp] theorem State.tick_ram (s : State) : (s.tick).ram = s.ram := rfl
@[simp] theorem State.tick_ppu (s : State) : (s.tick).ppu = (ppuTick (ppuTick (ppuTick s.ppuSide))).ppu := rfl
@[simp] theorem State.tick_apu (s : State) : (s.tick).apu = apuTick s.apu := rfl
@[simp] theorem State.tick_pads (s : State) : (s.tick).pads = s.pads := rfl
@[simp] theorem State.tick_cart (s : State) : (s.tick).cart = (ppuTick (ppuTick (ppuTick s.ppuSide))).cart := rfl
@[simp] theorem State.tick_log (s : State) : (s.tick).log = s.log := rfl

@[simp] theorem State.logged_a (s : State) (e : LogEvent) : (s.logged e).a = s.a := rfl
@[simp] theorem State.logged_x (s : State) (e : LogEvent) : (s.logged e).x = s.x := rfl
@[simp] theorem State.logged_y (s : State) (e : LogEvent) : (s.logged e).y = s.y := rfl
@[simp] theorem State.logged_sp (s : State) (e : LogEvent) : (s.logged e).sp = s.sp := rfl
@[simp] theorem State.logged_pc (s : State) (e : LogEvent) : (s.logged e).pc = s.pc := rfl
@[simp] theorem State.logged_p (s : State) (e : LogEvent) : (s.logged e).p = s.p := rfl
@[simp] theorem State.logged_cycle (s : State) (e : LogEvent) : (s.logged e).cycle = s.cycle := rfl
@[simp] theorem State.logged_ram (s : State) (e : LogEvent) : (s.logged e).ram = s.ram := rfl
@[simp] theorem State.logged_ppu (s : State) (e : LogEvent) : (s.logged e).ppu = s.ppu := rfl
@[simp] theorem State.logged_apu (s : State) (e : LogEvent) : (s.logged e).apu = s.apu := rfl
@[simp] theorem State.logged_pads (s : State) (e : LogEvent) : (s.logged e).pads = s.pads := rfl
@[simp] theorem State.logged_cart (s : State) (e : LogEvent) : (s.logged e).cart = s.cart := rfl
@[simp] theorem State.logged_log (s : State) (e : LogEvent) : (s.logged e).log = e :: s.log := rfl

@[simp] theorem State.advance_a (s : State) (n : Nat) : (s.advance n).a = s.a := rfl
@[simp] theorem State.advance_x (s : State) (n : Nat) : (s.advance n).x = s.x := rfl
@[simp] theorem State.advance_y (s : State) (n : Nat) : (s.advance n).y = s.y := rfl
@[simp] theorem State.advance_sp (s : State) (n : Nat) : (s.advance n).sp = s.sp := rfl
@[simp] theorem State.advance_pc (s : State) (n : Nat) : (s.advance n).pc = s.pc + BitVec.ofNat 16 n := rfl
@[simp] theorem State.advance_p (s : State) (n : Nat) : (s.advance n).p = s.p := rfl
@[simp] theorem State.advance_cycle (s : State) (n : Nat) : (s.advance n).cycle = s.cycle := rfl
@[simp] theorem State.advance_ram (s : State) (n : Nat) : (s.advance n).ram = s.ram := rfl
@[simp] theorem State.advance_ppu (s : State) (n : Nat) : (s.advance n).ppu = s.ppu := rfl
@[simp] theorem State.advance_apu (s : State) (n : Nat) : (s.advance n).apu = s.apu := rfl
@[simp] theorem State.advance_pads (s : State) (n : Nat) : (s.advance n).pads = s.pads := rfl
@[simp] theorem State.advance_cart (s : State) (n : Nat) : (s.advance n).cart = s.cart := rfl
@[simp] theorem State.advance_log (s : State) (n : Nat) : (s.advance n).log = s.log := rfl

@[simp] theorem State.setA_a (s : State) (v : Byte) : (s.setA v).a = v := rfl
@[simp] theorem State.setA_x (s : State) (v : Byte) : (s.setA v).x = s.x := rfl
@[simp] theorem State.setA_y (s : State) (v : Byte) : (s.setA v).y = s.y := rfl
@[simp] theorem State.setA_sp (s : State) (v : Byte) : (s.setA v).sp = s.sp := rfl
@[simp] theorem State.setA_pc (s : State) (v : Byte) : (s.setA v).pc = s.pc := rfl
@[simp] theorem State.setA_p (s : State) (v : Byte) : (s.setA v).p = setNZ s.p v := rfl
@[simp] theorem State.setA_cycle (s : State) (v : Byte) : (s.setA v).cycle = s.cycle := rfl
@[simp] theorem State.setA_ram (s : State) (v : Byte) : (s.setA v).ram = s.ram := rfl
@[simp] theorem State.setA_ppu (s : State) (v : Byte) : (s.setA v).ppu = s.ppu := rfl
@[simp] theorem State.setA_apu (s : State) (v : Byte) : (s.setA v).apu = s.apu := rfl
@[simp] theorem State.setA_pads (s : State) (v : Byte) : (s.setA v).pads = s.pads := rfl
@[simp] theorem State.setA_cart (s : State) (v : Byte) : (s.setA v).cart = s.cart := rfl
@[simp] theorem State.setA_log (s : State) (v : Byte) : (s.setA v).log = s.log := rfl

@[simp] theorem State.adc_a (s : State) (m : Byte) : (s.adc m).a = adcResult s.p s.a m := rfl
@[simp] theorem State.adc_x (s : State) (m : Byte) : (s.adc m).x = s.x := rfl
@[simp] theorem State.adc_y (s : State) (m : Byte) : (s.adc m).y = s.y := rfl
@[simp] theorem State.adc_sp (s : State) (m : Byte) : (s.adc m).sp = s.sp := rfl
@[simp] theorem State.adc_pc (s : State) (m : Byte) : (s.adc m).pc = s.pc := rfl
@[simp] theorem State.adc_p (s : State) (m : Byte) : (s.adc m).p = adcStatus s.p s.a m := rfl
@[simp] theorem State.adc_cycle (s : State) (m : Byte) : (s.adc m).cycle = s.cycle := rfl
@[simp] theorem State.adc_ram (s : State) (m : Byte) : (s.adc m).ram = s.ram := rfl
@[simp] theorem State.adc_ppu (s : State) (m : Byte) : (s.adc m).ppu = s.ppu := rfl
@[simp] theorem State.adc_apu (s : State) (m : Byte) : (s.adc m).apu = s.apu := rfl
@[simp] theorem State.adc_pads (s : State) (m : Byte) : (s.adc m).pads = s.pads := rfl
@[simp] theorem State.adc_cart (s : State) (m : Byte) : (s.adc m).cart = s.cart := rfl
@[simp] theorem State.adc_log (s : State) (m : Byte) : (s.adc m).log = s.log := rfl

@[simp] theorem State.sbc_a (s : State) (m : Byte) : (s.sbc m).a = adcResult s.p s.a (sbcOperand m) := rfl
@[simp] theorem State.sbc_x (s : State) (m : Byte) : (s.sbc m).x = s.x := rfl
@[simp] theorem State.sbc_y (s : State) (m : Byte) : (s.sbc m).y = s.y := rfl
@[simp] theorem State.sbc_sp (s : State) (m : Byte) : (s.sbc m).sp = s.sp := rfl
@[simp] theorem State.sbc_pc (s : State) (m : Byte) : (s.sbc m).pc = s.pc := rfl
@[simp] theorem State.sbc_p (s : State) (m : Byte) : (s.sbc m).p = adcStatus s.p s.a (sbcOperand m) := rfl
@[simp] theorem State.sbc_cycle (s : State) (m : Byte) : (s.sbc m).cycle = s.cycle := rfl
@[simp] theorem State.sbc_ram (s : State) (m : Byte) : (s.sbc m).ram = s.ram := rfl
@[simp] theorem State.sbc_ppu (s : State) (m : Byte) : (s.sbc m).ppu = s.ppu := rfl
@[simp] theorem State.sbc_apu (s : State) (m : Byte) : (s.sbc m).apu = s.apu := rfl
@[simp] theorem State.sbc_pads (s : State) (m : Byte) : (s.sbc m).pads = s.pads := rfl
@[simp] theorem State.sbc_cart (s : State) (m : Byte) : (s.sbc m).cart = s.cart := rfl
@[simp] theorem State.sbc_log (s : State) (m : Byte) : (s.sbc m).log = s.log := rfl

@[simp] theorem State.compare_a (s : State) (r m : Byte) : (s.compare r m).a = s.a := rfl
@[simp] theorem State.compare_x (s : State) (r m : Byte) : (s.compare r m).x = s.x := rfl
@[simp] theorem State.compare_y (s : State) (r m : Byte) : (s.compare r m).y = s.y := rfl
@[simp] theorem State.compare_sp (s : State) (r m : Byte) : (s.compare r m).sp = s.sp := rfl
@[simp] theorem State.compare_pc (s : State) (r m : Byte) : (s.compare r m).pc = s.pc := rfl
@[simp] theorem State.compare_p (s : State) (r m : Byte) : (s.compare r m).p = cmpStatus s.p r m := rfl
@[simp] theorem State.compare_cycle (s : State) (r m : Byte) : (s.compare r m).cycle = s.cycle := rfl
@[simp] theorem State.compare_ram (s : State) (r m : Byte) : (s.compare r m).ram = s.ram := rfl
@[simp] theorem State.compare_ppu (s : State) (r m : Byte) : (s.compare r m).ppu = s.ppu := rfl
@[simp] theorem State.compare_apu (s : State) (r m : Byte) : (s.compare r m).apu = s.apu := rfl
@[simp] theorem State.compare_pads (s : State) (r m : Byte) : (s.compare r m).pads = s.pads := rfl
@[simp] theorem State.compare_cart (s : State) (r m : Byte) : (s.compare r m).cart = s.cart := rfl
@[simp] theorem State.compare_log (s : State) (r m : Byte) : (s.compare r m).log = s.log := rfl

@[simp] theorem State.clearNmi_a (s : State) : (s.clearNmi).a = s.a := rfl
@[simp] theorem State.clearNmi_x (s : State) : (s.clearNmi).x = s.x := rfl
@[simp] theorem State.clearNmi_y (s : State) : (s.clearNmi).y = s.y := rfl
@[simp] theorem State.clearNmi_sp (s : State) : (s.clearNmi).sp = s.sp := rfl
@[simp] theorem State.clearNmi_pc (s : State) : (s.clearNmi).pc = s.pc := rfl
@[simp] theorem State.clearNmi_p (s : State) : (s.clearNmi).p = s.p := rfl
@[simp] theorem State.clearNmi_cycle (s : State) : (s.clearNmi).cycle = s.cycle := rfl
@[simp] theorem State.clearNmi_ram (s : State) : (s.clearNmi).ram = s.ram := rfl
@[simp] theorem State.clearNmi_ppu (s : State) : (s.clearNmi).ppu = { s.ppu with pendingNmi := false } := rfl
@[simp] theorem State.clearNmi_apu (s : State) : (s.clearNmi).apu = s.apu := rfl
@[simp] theorem State.clearNmi_pads (s : State) : (s.clearNmi).pads = s.pads := rfl
@[simp] theorem State.clearNmi_cart (s : State) : (s.clearNmi).cart = s.cart := rfl
@[simp] theorem State.clearNmi_log (s : State) : (s.clearNmi).log = s.log := rfl

@[simp] theorem scheduleAudio_a (s : State) (ts : List Nat) : (scheduleAudio s ts).a = s.a := rfl
@[simp] theorem scheduleAudio_x (s : State) (ts : List Nat) : (scheduleAudio s ts).x = s.x := rfl
@[simp] theorem scheduleAudio_y (s : State) (ts : List Nat) : (scheduleAudio s ts).y = s.y := rfl
@[simp] theorem scheduleAudio_sp (s : State) (ts : List Nat) : (scheduleAudio s ts).sp = s.sp := rfl
@[simp] theorem scheduleAudio_pc (s : State) (ts : List Nat) : (scheduleAudio s ts).pc = s.pc := rfl
@[simp] theorem scheduleAudio_p (s : State) (ts : List Nat) : (scheduleAudio s ts).p = s.p := rfl
@[simp] theorem scheduleAudio_cycle (s : State) (ts : List Nat) : (scheduleAudio s ts).cycle = s.cycle := rfl
@[simp] theorem scheduleAudio_ram (s : State) (ts : List Nat) : (scheduleAudio s ts).ram = s.ram := rfl
@[simp] theorem scheduleAudio_ppu (s : State) (ts : List Nat) : (scheduleAudio s ts).ppu = s.ppu := rfl
@[simp] theorem scheduleAudio_apu (s : State) (ts : List Nat) :
    (scheduleAudio s ts).apu = { s.apu with consumer := { s.apu.consumer with turns := ts } } := rfl
@[simp] theorem scheduleAudio_pads (s : State) (ts : List Nat) : (scheduleAudio s ts).pads = s.pads := rfl
@[simp] theorem scheduleAudio_cart (s : State) (ts : List Nat) : (scheduleAudio s ts).cart = s.cart := rfl
@[simp] theorem scheduleAudio_log (s : State) (ts : List Nat) : (scheduleAudio s ts).log = s.log := rfl

@[simp] theorem getAudioSamples_a (s : State) (n : Nat) : (getAudioSamples s n).2.a = s.a := rfl
@[simp] theorem getAudioSamples_x (s : State) (n : Nat) : (getAudioSamples s n).2.x = s.x := rfl
@[simp] theorem getAudioSamples_y (s : State) (n : Nat) : (getAudioSamples s n).2.y = s.y := rfl
@[simp] theorem getAudioSamples_sp (s : State) (n : Nat) : (getAudioSamples s n).2.sp = s.sp := rfl
@[simp] theorem getAudioSamples_pc (s : State) (n : Nat) : (getAudioSamples s n).2.pc = s.pc := rfl
@[simp] theorem getAudioSamples_p (s : State) (n : Nat) : (getAudioSamples s n).2.p = s.p := rfl
@[simp] theorem getAudioSamples_cycle (s : State) (n : Nat) : (getAudioSamples s n).2.cycle = s.cycle := rfl
@[simp] theorem getAudioSamples_ram (s : State) (n : Nat) : (getAudioSamples s n).2.ram = s.ram := rfl
@[simp] theorem getAudioSamples_ppu (s : State) (n : Nat) : (getAudioSamples s n).2.ppu = s.ppu := rfl
@[simp] theorem getAudioSamples_apu (s : State) (n : Nat) : (getAudioSamples s n).2.apu = consumerRemoves n s.apu := rfl
@[simp] theorem getAudioSamples_pads (s : State) (n : Nat) : (getAudioSamples s n).2.pads = s.pads := rfl
@[simp] theorem getAudioSamples_cart (s : State) (n : Nat) : (getAudioSamples s n).2.cart = s.cart := rfl
@[simp] theorem getAudioSamples_log (s : State) (n : Nat) : (getAudioSamples s n).2.log = s.log := rfl

/-- A read cycle ticks, then reads (R34). -/
theorem State.read_eq (s : State) (a : Word) : s.read a = s.tick.busRead a := rfl

/-- A write cycle ticks, then writes (R35). -/
theorem State.write_eq (s : State) (a : Word) (v : Byte) : s.write a v = s.tick.busWrite a v := rfl

/-- A write cycle of the OAM DMA ticks, then writes (R35). -/
theorem State.writeDirect_eq (s : State) (a : Word) (v : Byte) :
    s.writeDirect a v = s.tick.busWriteDirect a v := rfl

end Sys2Proof.Machine
end

