-- ==== Sys2Proof/Laws/Cpu.lean ====
section
/-! SUPPORT. What the shared bus operations leave alone in the CPU: one lemma per operation and register, cited by
every frame. A bus cycle touches no CPU register; only `push` and `pull` move `SP`. -/

namespace Sys2Proof.Machine

@[simp] theorem State.busRead_a (s : State) (a : Word) :
    (s.busRead a).2.a = s.a := by
  unfold State.busRead; cases regionOf a <;> first | rfl | (dsimp only; split <;> rfl)
@[simp] theorem State.busRead_x (s : State) (a : Word) :
    (s.busRead a).2.x = s.x := by
  unfold State.busRead; cases regionOf a <;> first | rfl | (dsimp only; split <;> rfl)
@[simp] theorem State.busRead_y (s : State) (a : Word) :
    (s.busRead a).2.y = s.y := by
  unfold State.busRead; cases regionOf a <;> first | rfl | (dsimp only; split <;> rfl)
@[simp] theorem State.busRead_sp (s : State) (a : Word) :
    (s.busRead a).2.sp = s.sp := by
  unfold State.busRead; cases regionOf a <;> first | rfl | (dsimp only; split <;> rfl)
@[simp] theorem State.busRead_pc (s : State) (a : Word) :
    (s.busRead a).2.pc = s.pc := by
  unfold State.busRead; cases regionOf a <;> first | rfl | (dsimp only; split <;> rfl)
@[simp] theorem State.busRead_p (s : State) (a : Word) :
    (s.busRead a).2.p = s.p := by
  unfold State.busRead; cases regionOf a <;> first | rfl | (dsimp only; split <;> rfl)
@[simp] theorem State.busRead_cycle (s : State) (a : Word) :
    (s.busRead a).2.cycle = s.cycle := by
  unfold State.busRead; cases regionOf a <;> first | rfl | (dsimp only; split <;> rfl)
@[simp] theorem State.busRead_ram (s : State) (a : Word) :
    (s.busRead a).2.ram = s.ram := by
  unfold State.busRead; cases regionOf a <;> first | rfl | (dsimp only; split <;> rfl)
@[simp] theorem State.busRead_apu (s : State) (a : Word) :
    (s.busRead a).2.apu = s.apu := by
  unfold State.busRead; cases regionOf a <;> first | rfl | (dsimp only; split <;> rfl)
@[simp] theorem State.busWriteDirect_a (s : State) (a : Word) (v : Byte) :
    (s.busWriteDirect a v).a = s.a := by
  unfold State.busWriteDirect; cases regionOf a <;> rfl
@[simp] theorem State.busWriteDirect_x (s : State) (a : Word) (v : Byte) :
    (s.busWriteDirect a v).x = s.x := by
  unfold State.busWriteDirect; cases regionOf a <;> rfl
@[simp] theorem State.busWriteDirect_y (s : State) (a : Word) (v : Byte) :
    (s.busWriteDirect a v).y = s.y := by
  unfold State.busWriteDirect; cases regionOf a <;> rfl
@[simp] theorem State.busWriteDirect_sp (s : State) (a : Word) (v : Byte) :
    (s.busWriteDirect a v).sp = s.sp := by
  unfold State.busWriteDirect; cases regionOf a <;> rfl
@[simp] theorem State.busWriteDirect_pc (s : State) (a : Word) (v : Byte) :
    (s.busWriteDirect a v).pc = s.pc := by
  unfold State.busWriteDirect; cases regionOf a <;> rfl
@[simp] theorem State.busWriteDirect_p (s : State) (a : Word) (v : Byte) :
    (s.busWriteDirect a v).p = s.p := by
  unfold State.busWriteDirect; cases regionOf a <;> rfl
@[simp] theorem State.busWriteDirect_cycle (s : State) (a : Word) (v : Byte) :
    (s.busWriteDirect a v).cycle = s.cycle := by
  unfold State.busWriteDirect; cases regionOf a <;> rfl
@[simp] theorem State.read_a (s : State) (a : Word) :
    (s.read a).2.a = s.a := by simp [State.read_eq]
@[simp] theorem State.read_x (s : State) (a : Word) :
    (s.read a).2.x = s.x := by simp [State.read_eq]
@[simp] theorem State.read_y (s : State) (a : Word) :
    (s.read a).2.y = s.y := by simp [State.read_eq]
@[simp] theorem State.read_sp (s : State) (a : Word) :
    (s.read a).2.sp = s.sp := by simp [State.read_eq]
@[simp] theorem State.read_pc (s : State) (a : Word) :
    (s.read a).2.pc = s.pc := by simp [State.read_eq]
@[simp] theorem State.read_p (s : State) (a : Word) :
    (s.read a).2.p = s.p := by simp [State.read_eq]
@[simp] theorem State.read_ram (s : State) (a : Word) :
    (s.read a).2.ram = s.ram := by simp [State.read_eq]
@[simp] theorem State.read_apu (s : State) (a : Word) :
    (s.read a).2.apu = apuTick s.apu := by simp [State.read_eq]
@[simp] theorem State.read_cycle (s : State) (a : Word) :
    (s.read a).2.cycle = s.cycle + 1 := by simp [State.read_eq]
@[simp] theorem State.writeDirect_a (s : State) (a : Word) (v : Byte) :
    (s.writeDirect a v).a = s.a := by simp [State.writeDirect_eq]
@[simp] theorem State.writeDirect_x (s : State) (a : Word) (v : Byte) :
    (s.writeDirect a v).x = s.x := by simp [State.writeDirect_eq]
@[simp] theorem State.writeDirect_y (s : State) (a : Word) (v : Byte) :
    (s.writeDirect a v).y = s.y := by simp [State.writeDirect_eq]
@[simp] theorem State.writeDirect_sp (s : State) (a : Word) (v : Byte) :
    (s.writeDirect a v).sp = s.sp := by simp [State.writeDirect_eq]
@[simp] theorem State.writeDirect_pc (s : State) (a : Word) (v : Byte) :
    (s.writeDirect a v).pc = s.pc := by simp [State.writeDirect_eq]
@[simp] theorem State.writeDirect_p (s : State) (a : Word) (v : Byte) :
    (s.writeDirect a v).p = s.p := by simp [State.writeDirect_eq]
@[simp] theorem State.writeDirect_cycle (s : State) (a : Word) (v : Byte) :
    (s.writeDirect a v).cycle = s.cycle + 1 := by simp [State.writeDirect_eq]
@[simp] theorem dmaBytes_a (page : Byte) : ∀ n i s, (dmaBytes page n i s).a = s.a
  | 0, _, _ => rfl
  | n + 1, i, s => by simp [dmaBytes, dmaBytes_a page n]
@[simp] theorem dmaBytes_x (page : Byte) : ∀ n i s, (dmaBytes page n i s).x = s.x
  | 0, _, _ => rfl
  | n + 1, i, s => by simp [dmaBytes, dmaBytes_x page n]
@[simp] theorem dmaBytes_y (page : Byte) : ∀ n i s, (dmaBytes page n i s).y = s.y
  | 0, _, _ => rfl
  | n + 1, i, s => by simp [dmaBytes, dmaBytes_y page n]
@[simp] theorem dmaBytes_sp (page : Byte) : ∀ n i s, (dmaBytes page n i s).sp = s.sp
  | 0, _, _ => rfl
  | n + 1, i, s => by simp [dmaBytes, dmaBytes_sp page n]
@[simp] theorem dmaBytes_pc (page : Byte) : ∀ n i s, (dmaBytes page n i s).pc = s.pc
  | 0, _, _ => rfl
  | n + 1, i, s => by simp [dmaBytes, dmaBytes_pc page n]
@[simp] theorem dmaBytes_p (page : Byte) : ∀ n i s, (dmaBytes page n i s).p = s.p
  | 0, _, _ => rfl
  | n + 1, i, s => by simp [dmaBytes, dmaBytes_p page n]
@[simp] theorem dmaBytes_cycle (page : Byte) : ∀ n i s, (dmaBytes page n i s).cycle = s.cycle + 2 * n
  | 0, _, _ => rfl
  | n + 1, i, s => by simp [dmaBytes, dmaBytes_cycle page n]; omega
@[simp] theorem State.oamDma_a (s : State) (v : Byte) :
    (s.oamDma v).a = s.a := by
  unfold State.oamDma; dsimp only; split <;> simp
@[simp] theorem State.oamDma_x (s : State) (v : Byte) :
    (s.oamDma v).x = s.x := by
  unfold State.oamDma; dsimp only; split <;> simp
@[simp] theorem State.oamDma_y (s : State) (v : Byte) :
    (s.oamDma v).y = s.y := by
  unfold State.oamDma; dsimp only; split <;> simp
@[simp] theorem State.oamDma_sp (s : State) (v : Byte) :
    (s.oamDma v).sp = s.sp := by
  unfold State.oamDma; dsimp only; split <;> simp
@[simp] theorem State.oamDma_pc (s : State) (v : Byte) :
    (s.oamDma v).pc = s.pc := by
  unfold State.oamDma; dsimp only; split <;> simp
@[simp] theorem State.oamDma_p (s : State) (v : Byte) :
    (s.oamDma v).p = s.p := by
  unfold State.oamDma; dsimp only; split <;> simp
/-- The DMA takes 513 cycles, one more when it aligns (R44). -/
theorem State.oamDma_cycle (s : State) (v : Byte) :
    (s.oamDma v).cycle = s.cycle + 513 + (if dmaAligns s then 1 else 0) := by
  unfold State.oamDma; dsimp only; split <;> simp
@[simp] theorem State.busWrite_a (s : State) (a : Word) (v : Byte) :
    (s.busWrite a v).a = s.a := by
  unfold State.busWrite; split <;> simp
@[simp] theorem State.busWrite_x (s : State) (a : Word) (v : Byte) :
    (s.busWrite a v).x = s.x := by
  unfold State.busWrite; split <;> simp
@[simp] theorem State.busWrite_y (s : State) (a : Word) (v : Byte) :
    (s.busWrite a v).y = s.y := by
  unfold State.busWrite; split <;> simp
@[simp] theorem State.busWrite_sp (s : State) (a : Word) (v : Byte) :
    (s.busWrite a v).sp = s.sp := by
  unfold State.busWrite; split <;> simp
@[simp] theorem State.busWrite_pc (s : State) (a : Word) (v : Byte) :
    (s.busWrite a v).pc = s.pc := by
  unfold State.busWrite; split <;> simp
@[simp] theorem State.busWrite_p (s : State) (a : Word) (v : Byte) :
    (s.busWrite a v).p = s.p := by
  unfold State.busWrite; split <;> simp
@[simp] theorem State.write_a (s : State) (a : Word) (v : Byte) :
    (s.write a v).a = s.a := by simp [State.write_eq]
@[simp] theorem State.write_x (s : State) (a : Word) (v : Byte) :
    (s.write a v).x = s.x := by simp [State.write_eq]
@[simp] theorem State.write_y (s : State) (a : Word) (v : Byte) :
    (s.write a v).y = s.y := by simp [State.write_eq]
@[simp] theorem State.write_sp (s : State) (a : Word) (v : Byte) :
    (s.write a v).sp = s.sp := by simp [State.write_eq]
@[simp] theorem State.write_pc (s : State) (a : Word) (v : Byte) :
    (s.write a v).pc = s.pc := by simp [State.write_eq]
@[simp] theorem State.write_p (s : State) (a : Word) (v : Byte) :
    (s.write a v).p = s.p := by simp [State.write_eq]
@[simp] theorem State.readWord_a (s : State) (a : Word) :
    (s.readWord a).2.a = s.a := by simp [State.readWord]
@[simp] theorem State.readWord_x (s : State) (a : Word) :
    (s.readWord a).2.x = s.x := by simp [State.readWord]
@[simp] theorem State.readWord_y (s : State) (a : Word) :
    (s.readWord a).2.y = s.y := by simp [State.readWord]
@[simp] theorem State.readWord_sp (s : State) (a : Word) :
    (s.readWord a).2.sp = s.sp := by simp [State.readWord]
@[simp] theorem State.readWord_pc (s : State) (a : Word) :
    (s.readWord a).2.pc = s.pc := by simp [State.readWord]
@[simp] theorem State.readWord_p (s : State) (a : Word) :
    (s.readWord a).2.p = s.p := by simp [State.readWord]
@[simp] theorem State.readWord_ram (s : State) (a : Word) :
    (s.readWord a).2.ram = s.ram := by simp [State.readWord]
@[simp] theorem State.push_a (s : State) (v : Byte) :
    (s.push v).a = s.a := by simp [State.push]
@[simp] theorem State.pushWord_a (s : State) (w : Word) :
    (s.pushWord w).a = s.a := by simp [State.pushWord]
@[simp] theorem State.pull_a (s : State) :
    s.pull.2.a = s.a := by simp [State.pull]
@[simp] theorem State.pullWord_a (s : State) :
    s.pullWord.2.a = s.a := by simp [State.pullWord]
@[simp] theorem State.push_x (s : State) (v : Byte) :
    (s.push v).x = s.x := by simp [State.push]
@[simp] theorem State.pushWord_x (s : State) (w : Word) :
    (s.pushWord w).x = s.x := by simp [State.pushWord]
@[simp] theorem State.pull_x (s : State) :
    s.pull.2.x = s.x := by simp [State.pull]
@[simp] theorem State.pullWord_x (s : State) :
    s.pullWord.2.x = s.x := by simp [State.pullWord]
@[simp] theorem State.push_y (s : State) (v : Byte) :
    (s.push v).y = s.y := by simp [State.push]
@[simp] theorem State.pushWord_y (s : State) (w : Word) :
    (s.pushWord w).y = s.y := by simp [State.pushWord]
@[simp] theorem State.pull_y (s : State) :
    s.pull.2.y = s.y := by simp [State.pull]
@[simp] theorem State.pullWord_y (s : State) :
    s.pullWord.2.y = s.y := by simp [State.pullWord]
@[simp] theorem State.push_pc (s : State) (v : Byte) :
    (s.push v).pc = s.pc := by simp [State.push]
@[simp] theorem State.pushWord_pc (s : State) (w : Word) :
    (s.pushWord w).pc = s.pc := by simp [State.pushWord]
@[simp] theorem State.pull_pc (s : State) :
    s.pull.2.pc = s.pc := by simp [State.pull]
@[simp] theorem State.pullWord_pc (s : State) :
    s.pullWord.2.pc = s.pc := by simp [State.pullWord]
@[simp] theorem State.push_p (s : State) (v : Byte) :
    (s.push v).p = s.p := by simp [State.push]
@[simp] theorem State.pushWord_p (s : State) (w : Word) :
    (s.pushWord w).p = s.p := by simp [State.pushWord]
@[simp] theorem State.pull_p (s : State) :
    s.pull.2.p = s.p := by simp [State.pull]
@[simp] theorem State.pullWord_p (s : State) :
    s.pullWord.2.p = s.p := by simp [State.pullWord]
@[simp] theorem State.push_sp (s : State) (v : Byte) :
    (s.push v).sp = s.sp - 1 := by simp [State.push]
@[simp] theorem State.pushWord_sp (s : State) (w : Word) :
    (s.pushWord w).sp = s.sp - 1 - 1 := by simp [State.pushWord]
@[simp] theorem State.pull_sp (s : State) :
    s.pull.2.sp = s.sp + 1 := by simp [State.pull]
@[simp] theorem State.pullWord_sp (s : State) :
    s.pullWord.2.sp = s.sp + 1 + 1 := by simp [State.pullWord]
@[simp] theorem State.pull_ram (s : State) :
    s.pull.2.ram = s.ram := by simp [State.pull]
@[simp] theorem State.pullWord_ram (s : State) :
    s.pullWord.2.ram = s.ram := by simp [State.pullWord]

end Sys2Proof.Machine
end

