-- ==== Sys2Proof/Laws/Operands.lean ====
section
/-! SUPPORT. What the addressing modes and access patterns leave alone in the CPU (R64 to R75): a read changes no
register and no work RAM; a store changes no register; a read-modify-write may change `P` only. -/

namespace Sys2Proof.Machine

@[simp] theorem indexed_a (u : Use) (base : Word) (i : Byte) (s : State) :
    (indexed u base i s).2.a = s.a := by
  unfold indexed; dsimp only; split <;> simp
@[simp] theorem zeroPagePointer_a (b : Byte) (s : State) :
    (zeroPagePointer b s).2.a = s.a := by simp [zeroPagePointer]
@[simp] theorem effAddr_a (u : Use) (o : Operand) (s : State) :
    (effAddr u o s).2.a = s.a := by
  cases o <;> simp [effAddr, Config.zpyTick]
@[simp] theorem readOp_a (o : Operand) (s : State) :
    (readOp o s).2.a = s.a := by cases o <;> simp [readOp]
@[simp] theorem indexed_x (u : Use) (base : Word) (i : Byte) (s : State) :
    (indexed u base i s).2.x = s.x := by
  unfold indexed; dsimp only; split <;> simp
@[simp] theorem zeroPagePointer_x (b : Byte) (s : State) :
    (zeroPagePointer b s).2.x = s.x := by simp [zeroPagePointer]
@[simp] theorem effAddr_x (u : Use) (o : Operand) (s : State) :
    (effAddr u o s).2.x = s.x := by
  cases o <;> simp [effAddr, Config.zpyTick]
@[simp] theorem readOp_x (o : Operand) (s : State) :
    (readOp o s).2.x = s.x := by cases o <;> simp [readOp]
@[simp] theorem indexed_y (u : Use) (base : Word) (i : Byte) (s : State) :
    (indexed u base i s).2.y = s.y := by
  unfold indexed; dsimp only; split <;> simp
@[simp] theorem zeroPagePointer_y (b : Byte) (s : State) :
    (zeroPagePointer b s).2.y = s.y := by simp [zeroPagePointer]
@[simp] theorem effAddr_y (u : Use) (o : Operand) (s : State) :
    (effAddr u o s).2.y = s.y := by
  cases o <;> simp [effAddr, Config.zpyTick]
@[simp] theorem readOp_y (o : Operand) (s : State) :
    (readOp o s).2.y = s.y := by cases o <;> simp [readOp]
@[simp] theorem indexed_sp (u : Use) (base : Word) (i : Byte) (s : State) :
    (indexed u base i s).2.sp = s.sp := by
  unfold indexed; dsimp only; split <;> simp
@[simp] theorem zeroPagePointer_sp (b : Byte) (s : State) :
    (zeroPagePointer b s).2.sp = s.sp := by simp [zeroPagePointer]
@[simp] theorem effAddr_sp (u : Use) (o : Operand) (s : State) :
    (effAddr u o s).2.sp = s.sp := by
  cases o <;> simp [effAddr, Config.zpyTick]
@[simp] theorem readOp_sp (o : Operand) (s : State) :
    (readOp o s).2.sp = s.sp := by cases o <;> simp [readOp]
@[simp] theorem indexed_pc (u : Use) (base : Word) (i : Byte) (s : State) :
    (indexed u base i s).2.pc = s.pc := by
  unfold indexed; dsimp only; split <;> simp
@[simp] theorem zeroPagePointer_pc (b : Byte) (s : State) :
    (zeroPagePointer b s).2.pc = s.pc := by simp [zeroPagePointer]
@[simp] theorem effAddr_pc (u : Use) (o : Operand) (s : State) :
    (effAddr u o s).2.pc = s.pc := by
  cases o <;> simp [effAddr, Config.zpyTick]
@[simp] theorem readOp_pc (o : Operand) (s : State) :
    (readOp o s).2.pc = s.pc := by cases o <;> simp [readOp]
@[simp] theorem indexed_p (u : Use) (base : Word) (i : Byte) (s : State) :
    (indexed u base i s).2.p = s.p := by
  unfold indexed; dsimp only; split <;> simp
@[simp] theorem zeroPagePointer_p (b : Byte) (s : State) :
    (zeroPagePointer b s).2.p = s.p := by simp [zeroPagePointer]
@[simp] theorem effAddr_p (u : Use) (o : Operand) (s : State) :
    (effAddr u o s).2.p = s.p := by
  cases o <;> simp [effAddr, Config.zpyTick]
@[simp] theorem readOp_p (o : Operand) (s : State) :
    (readOp o s).2.p = s.p := by cases o <;> simp [readOp]
@[simp] theorem indexed_ram (u : Use) (base : Word) (i : Byte) (s : State) :
    (indexed u base i s).2.ram = s.ram := by
  unfold indexed; dsimp only; split <;> simp
@[simp] theorem zeroPagePointer_ram (b : Byte) (s : State) :
    (zeroPagePointer b s).2.ram = s.ram := by simp [zeroPagePointer]
@[simp] theorem effAddr_ram (u : Use) (o : Operand) (s : State) :
    (effAddr u o s).2.ram = s.ram := by
  cases o <;> simp [effAddr, Config.zpyTick]
@[simp] theorem readOp_ram (o : Operand) (s : State) :
    (readOp o s).2.ram = s.ram := by cases o <;> simp [readOp]
@[simp] theorem writeOp_a (o : Operand) (v : Byte) (s : State) :
    (writeOp o v s).a = s.a := by simp [writeOp]
@[simp] theorem rmwOp_a (o : Operand) (f : Byte → Byte → Modified) (s : State) :
    (rmwOp o f s).2.a = s.a := by simp [rmwOp]
@[simp] theorem writeOp_x (o : Operand) (v : Byte) (s : State) :
    (writeOp o v s).x = s.x := by simp [writeOp]
@[simp] theorem rmwOp_x (o : Operand) (f : Byte → Byte → Modified) (s : State) :
    (rmwOp o f s).2.x = s.x := by simp [rmwOp]
@[simp] theorem writeOp_y (o : Operand) (v : Byte) (s : State) :
    (writeOp o v s).y = s.y := by simp [writeOp]
@[simp] theorem rmwOp_y (o : Operand) (f : Byte → Byte → Modified) (s : State) :
    (rmwOp o f s).2.y = s.y := by simp [rmwOp]
@[simp] theorem writeOp_sp (o : Operand) (v : Byte) (s : State) :
    (writeOp o v s).sp = s.sp := by simp [writeOp]
@[simp] theorem rmwOp_sp (o : Operand) (f : Byte → Byte → Modified) (s : State) :
    (rmwOp o f s).2.sp = s.sp := by simp [rmwOp]
@[simp] theorem writeOp_pc (o : Operand) (v : Byte) (s : State) :
    (writeOp o v s).pc = s.pc := by simp [writeOp]
@[simp] theorem rmwOp_pc (o : Operand) (f : Byte → Byte → Modified) (s : State) :
    (rmwOp o f s).2.pc = s.pc := by simp [rmwOp]
@[simp] theorem writeOp_p (o : Operand) (v : Byte) (s : State) :
    (writeOp o v s).p = s.p := by simp [writeOp]

/-- The byte a read-modify-write works on (R75). -/
theorem rmwOp_byte (o : Operand) (f : Byte → Byte → Modified) (s : State) :
    (rmwOp o f s).1 = (f s.p ((effAddr .writeType o s).2.read (effAddr .writeType o s).1).1).byte := by
  simp [rmwOp]

/-- The status a read-modify-write leaves (R75). -/
theorem rmwOp_p (o : Operand) (f : Byte → Byte → Modified) (s : State) :
    (rmwOp o f s).2.p = (f s.p ((effAddr .writeType o s).2.read (effAddr .writeType o s).1).1).status := by
  simp [rmwOp]

end Sys2Proof.Machine
end

