-- ==== Sys2Proof/Laws/Ppu.lean ====
section
/-! SUPPORT. What a dot of the picture unit and an access of a port leave alone, and that both keep the unit's
ranges: the lemmas every frame and the state invariant cite. -/

namespace Sys2Proof.Machine

/-! ### The CPU's side of the cartridge -/

/-- What the CPU can read of a `FLAT32` without a bus cycle: its program and work memories. -/
def Mapper.cpuView (c : Mapper) : Option (Memory × Memory) :=
  match c with
  | .flat32 f => some (f.prg, f.wram)
  | .custom _ => none

/-- A `FLAT32`; nothing for another cartridge. -/
def Mapper.flat (c : Mapper) : Option Flat32 :=
  match c with
  | .flat32 f => some f
  | .custom _ => none

@[simp] theorem Mapper.flat_ppuRead (c : Mapper) (a : BitVec 14) : (c.ppuRead a).2.flat = c.flat := by
  cases c <;> rfl

@[simp] theorem Mapper.flat_cpuRead (c : Mapper) (a : Word) : (c.cpuRead a).2.flat = c.flat := by
  cases c <;> rfl

@[simp] theorem Mapper.cpuView_ppuRead (c : Mapper) (a : BitVec 14) : (c.ppuRead a).2.cpuView = c.cpuView := by
  cases c <;> rfl

@[simp] theorem Mapper.cpuView_ppuWrite (c : Mapper) (a : BitVec 14) (v : Byte) :
    (c.ppuWrite a v).cpuView = c.cpuView := by
  cases c <;> rfl

@[simp] theorem Mapper.cpuView_cpuRead (c : Mapper) (a : Word) : (c.cpuRead a).2.cpuView = c.cpuView := by
  cases c <;> rfl

@[simp] theorem Mapper.wf_ppuRead (c : Mapper) (a : BitVec 14) : (c.ppuRead a).2.wf = c.wf := by
  cases c <;> rfl

@[simp] theorem Mapper.wf_cpuRead (c : Mapper) (a : Word) : (c.cpuRead a).2.wf = c.wf := by
  cases c <;> rfl

theorem chrIndex_lt (a : BitVec 14) : chrIndex a < 8192 := (a.setWidth 13).isLt

theorem wramIndex_lt (a : Word) : wramIndex a < 8192 := (a.setWidth 13).isLt

theorem Mapper.wf_ppuWrite (c : Mapper) (a : BitVec 14) (v : Byte) (h : c.wf = true) :
    (c.ppuWrite a v).wf = true := by
  cases c with
  | custom st => rfl
  | flat32 f =>
    simp only [Mapper.wf, Bool.and_eq_true, Mapper.ppuWrite] at h ⊢
    exact ⟨h.1, Memory.write_wf _ _ _ _ (chrIndex_lt a) h.2⟩

theorem Mapper.wf_cpuWrite (c : Mapper) (a : Word) (v : Byte) (h : c.wf = true) : (c.cpuWrite a v).wf = true := by
  cases c with
  | custom st => rfl
  | flat32 f =>
    simp only [Mapper.cpuWrite]
    split
    · exact h
    · simp only [Mapper.wf, Bool.and_eq_true] at h ⊢
      exact ⟨⟨h.1.1, Memory.write_wf _ _ _ _ (wramIndex_lt a) h.1.2⟩, h.2⟩

/-! ### Memory reads of the unit -/

@[simp] theorem ppuMemRead_ppu (g : PpuSide) (a : BitVec 14) : (ppuMemRead g a).2.ppu = g.ppu := by
  unfold ppuMemRead; split
  · rfl
  · split
    · split <;> rfl
    · rfl

/-- A memory read of the unit depends on the nametables, the palette and the cartridge alone. -/
theorem ppuMemRead_withPpu (g : PpuSide) (u : Ppu) (a : BitVec 14) (hv : u.vram = g.ppu.vram)
    (hp : u.pal = g.ppu.pal) :
    ppuMemRead { g with ppu := u } a = ((ppuMemRead g a).1, { (ppuMemRead g a).2 with ppu := u }) := by
  unfold ppuMemRead; dsimp only; rw [hv, hp]
  split
  · rfl
  · split
    · split <;> rfl
    · rfl

/-! ### What rendering leaves alone -/

/-- What only the CPU's port accesses change: memories, port registers, `t`, `x`, `w` and the read buffer. -/
def Ppu.held (u : Ppu) : Memory × Memory × Memory × Byte × Byte × Byte × BitVec 15 × BitVec 3 × Bool × Byte :=
  (u.vram, u.pal, u.oam, u.oamAddr, u.ctrl, u.mask, u.t, u.x, u.w, u.readBuffer)

@[simp] theorem timedEvents_held (u : Ppu) : (timedEvents u).held = u.held := by
  unfold timedEvents vblankOnset; dsimp only; split <;> split <;> split <;> rfl

@[simp] theorem bgFetchStep_held (g : PpuSide) (ph : Nat) : (bgFetchStep g ph).ppu.held = g.ppu.held := by
  unfold bgFetchStep bgReload; dsimp only; repeat' split
  all_goals simp [Ppu.held]

@[simp] theorem dotFetch_held (g : PpuSide) : (dotFetch g).ppu.held = g.ppu.held := by
  unfold dotFetch; split
  · rw [bgFetchStep_held]; rfl
  · rfl

@[simp] theorem dotPixel_held (g : PpuSide) : (dotPixel g).ppu.held = g.ppu.held := by
  unfold dotPixel; split <;> rfl

@[simp] theorem dotPixel_cart (g : PpuSide) : (dotPixel g).cart = g.cart := by
  unfold dotPixel; split <;> rfl

@[simp] theorem spriteEvaluate_held (u : Ppu) : (spriteEvaluate u).held = u.held := by
  unfold spriteEvaluate; split <;> rfl

@[simp] theorem copyHorizontal_held (u : Ppu) : (copyHorizontal u).held = u.held := rfl

@[simp] theorem copyVertical_held (u : Ppu) : (copyVertical u).held = u.held := rfl

@[simp] theorem dotScroll_held (u : Ppu) : (dotScroll u).held = u.held := by
  unfold dotScroll spriteEvaluate copyHorizontal copyVertical; dsimp only
  split <;> split <;> split <;> first | rfl | (split <;> rfl)

@[simp] theorem spriteFetch_held (g : PpuSide) (i : Nat) : (spriteFetch g i).ppu.held = g.ppu.held := by
  unfold spriteFetch; split <;> simp [Ppu.held]

@[simp] theorem dotSprite_held (g : PpuSide) : (dotSprite g).ppu.held = g.ppu.held := by
  unfold dotSprite; split <;> simp

@[simp] theorem renderDot_held (g : PpuSide) : (renderDot g).ppu.held = g.ppu.held := by
  simp [renderDot]

@[simp] theorem advanceDot_held (re : Bool) (u : Ppu) : (advanceDot re u).held = u.held := by
  unfold advanceDot; dsimp only; repeat' split
  all_goals rfl

/-- A dot changes no memory of the unit, no port register, neither `t`, `x`, `w` nor the read buffer. -/
@[simp] theorem ppuTick_held (g : PpuSide) : (ppuTick g).ppu.held = g.ppu.held := by
  unfold ppuTick; dsimp only; split <;> simp

@[simp] theorem ppuTick_vram (g : PpuSide) : (ppuTick g).ppu.vram = g.ppu.vram :=
  congrArg (fun h => h.1) (ppuTick_held g)
@[simp] theorem ppuTick_pal (g : PpuSide) : (ppuTick g).ppu.pal = g.ppu.pal :=
  congrArg (fun h => h.2.1) (ppuTick_held g)
@[simp] theorem ppuTick_oam (g : PpuSide) : (ppuTick g).ppu.oam = g.ppu.oam :=
  congrArg (fun h => h.2.2.1) (ppuTick_held g)
@[simp] theorem ppuTick_oamAddr (g : PpuSide) : (ppuTick g).ppu.oamAddr = g.ppu.oamAddr :=
  congrArg (fun h => h.2.2.2.1) (ppuTick_held g)
@[simp] theorem ppuTick_ctrl (g : PpuSide) : (ppuTick g).ppu.ctrl = g.ppu.ctrl :=
  congrArg (fun h => h.2.2.2.2.1) (ppuTick_held g)
@[simp] theorem ppuTick_mask (g : PpuSide) : (ppuTick g).ppu.mask = g.ppu.mask :=
  congrArg (fun h => h.2.2.2.2.2.1) (ppuTick_held g)
@[simp] theorem ppuTick_t (g : PpuSide) : (ppuTick g).ppu.t = g.ppu.t :=
  congrArg (fun h => h.2.2.2.2.2.2.1) (ppuTick_held g)
@[simp] theorem ppuTick_x (g : PpuSide) : (ppuTick g).ppu.x = g.ppu.x :=
  congrArg (fun h => h.2.2.2.2.2.2.2.1) (ppuTick_held g)
@[simp] theorem ppuTick_w (g : PpuSide) : (ppuTick g).ppu.w = g.ppu.w :=
  congrArg (fun h => h.2.2.2.2.2.2.2.2.1) (ppuTick_held g)
@[simp] theorem ppuTick_readBuffer (g : PpuSide) : (ppuTick g).ppu.readBuffer = g.ppu.readBuffer :=
  congrArg (fun h => h.2.2.2.2.2.2.2.2.2) (ppuTick_held g)

/-! ### What reading leaves alone in the cartridge

Stated once for any view `F` of the cartridge that its `ppu_read` does not change. -/

section CartridgeView

variable {α : Type} {F : Mapper → α}

theorem ppuMemRead_view (hF : ∀ c a, F (Mapper.ppuRead c a).2 = F c) (g : PpuSide) (a : BitVec 14) :
    F (ppuMemRead g a).2.cart = F g.cart := by
  unfold ppuMemRead; split
  · exact hF _ _
  · split
    · split
      · exact hF _ _
      · rfl
    · rfl

theorem bgFetchStep_view (hF : ∀ c a, F (Mapper.ppuRead c a).2 = F c) (g : PpuSide) (ph : Nat) :
    F (bgFetchStep g ph).cart = F g.cart := by
  unfold bgFetchStep; dsimp only; repeat' split
  all_goals first | exact ppuMemRead_view hF _ _ | rfl

theorem dotFetch_view (hF : ∀ c a, F (Mapper.ppuRead c a).2 = F c) (g : PpuSide) :
    F (dotFetch g).cart = F g.cart := by
  unfold dotFetch; split
  · exact bgFetchStep_view hF _ _
  · rfl

theorem dotSprite_view (hF : ∀ c a, F (Mapper.ppuRead c a).2 = F c) (g : PpuSide) :
    F (dotSprite g).cart = F g.cart := by
  unfold dotSprite spriteFetch; repeat' split
  · rfl
  · exact (ppuMemRead_view hF _ _).trans (ppuMemRead_view hF _ _)
  · rfl

/-- A dot leaves a view of the cartridge alone that `ppu_read` leaves alone. -/
theorem ppuTick_view (hF : ∀ c a, F (Mapper.ppuRead c a).2 = F c) (g : PpuSide) : F (ppuTick g).cart = F g.cart := by
  unfold ppuTick renderDot; dsimp only; split
  · rw [dotSprite_view hF]
    exact (dotFetch_view hF _).trans (congrArg F (dotPixel_cart _))
  · rfl

/-- A port read leaves it alone too. -/
theorem ppuPortRead_view (hF : ∀ c a, F (Mapper.ppuRead c a).2 = F c) (g : PpuSide) (p : BitVec 3) :
    F (ppuPortRead g p).2.cart = F g.cart := by
  unfold ppuPortRead dataRead dataFetch; dsimp only; repeat' split
  all_goals first
    | rfl
    | exact (ppuMemRead_view hF _ _).trans (ppuMemRead_view hF _ _)
    | exact ppuMemRead_view hF _ _

end CartridgeView

@[simp] theorem ppuTick_cpuView (g : PpuSide) : (ppuTick g).cart.cpuView = g.cart.cpuView :=
  ppuTick_view Mapper.cpuView_ppuRead g
@[simp] theorem ppuTick_flat (g : PpuSide) : (ppuTick g).cart.flat = g.cart.flat :=
  ppuTick_view Mapper.flat_ppuRead g
@[simp] theorem ppuTick_cart_wf (g : PpuSide) : (ppuTick g).cart.wf = g.cart.wf :=
  ppuTick_view Mapper.wf_ppuRead g
@[simp] theorem ppuPortRead_cpuView (g : PpuSide) (p : BitVec 3) :
    (ppuPortRead g p).2.cart.cpuView = g.cart.cpuView := ppuPortRead_view Mapper.cpuView_ppuRead g p
@[simp] theorem ppuPortRead_flat (g : PpuSide) (p : BitVec 3) :
    (ppuPortRead g p).2.cart.flat = g.cart.flat := ppuPortRead_view Mapper.flat_ppuRead g p
@[simp] theorem ppuPortRead_cart_wf (g : PpuSide) (p : BitVec 3) : (ppuPortRead g p).2.cart.wf = g.cart.wf :=
  ppuPortRead_view Mapper.wf_ppuRead g p

/-! ### Ranges -/

theorem bgFetchStep_wf (g : PpuSide) (ph : Nat) (h : g.ppu.Wf) : (bgFetchStep g ph).ppu.Wf := by
  unfold bgFetchStep bgReload; dsimp only; repeat' split
  all_goals simpa using h

theorem dotFetch_wf (g : PpuSide) (h : g.ppu.Wf) : (dotFetch g).ppu.Wf := by
  unfold dotFetch; split
  · exact bgFetchStep_wf _ _ h
  · exact h

theorem spriteEvaluate_wf (u : Ppu) (h : u.Wf) : (spriteEvaluate u).Wf := by
  obtain ⟨h1, h2, h3, h4, h5, h6, h7, h8, h9⟩ := h
  unfold spriteEvaluate; split
  · exact ⟨h1, h2, h3, h4, h5, h6, by simp, h8, h9⟩
  · exact ⟨h1, h2, h3, h4, h5, h6, by simp, h8, h9⟩

theorem dotScroll_wf (u : Ppu) (h : u.Wf) : (dotScroll u).Wf := by
  unfold dotScroll copyVertical copyHorizontal; dsimp only
  split <;> split <;> split <;> first | exact h | exact spriteEvaluate_wf _ h

theorem spriteFetch_wf (g : PpuSide) (i : Nat) (h : g.ppu.Wf) : (spriteFetch g i).ppu.Wf := by
  obtain ⟨h1, h2, h3, h4, h5, h6, h7, h8, h9⟩ := h
  unfold spriteFetch; split
  · exact ⟨h1, h2, h3, h4, h5, h6, h7, by simpa using h8, h9⟩
  · refine ⟨?_, ?_, ?_, ?_, ?_, ?_, ?_, ?_, ?_⟩ <;> simp only [ppuMemRead_ppu, List.length_set] <;> assumption

theorem dotSprite_wf (g : PpuSide) (h : g.ppu.Wf) : (dotSprite g).ppu.Wf := by
  unfold dotSprite; split
  · exact spriteFetch_wf _ _ h
  · exact h

/-- A pixel of the visible frame keeps the unit's ranges. -/
theorem emitPixel_wf (u : Ppu) (px : Nat) (hs : 0 ≤ u.scanline ∧ u.scanline ≤ 239) (hp : px < 256) (h : u.Wf) :
    (emitPixel u px).Wf := by
  obtain ⟨h1, h2, h3, h4, h5, h6, h7, h8, h9⟩ := h
  refine ⟨h1, h2, h3, h4, h5, h6, h7, ?_, ?_⟩
  · simpa [emitPixel, spriteUnitsStep] using h8
  · have : 256 * u.scanline.toNat + px < 61440 := by omega
    exact sparseSet_wf none _ u.fb _ (some _) this h9

@[simp] theorem timedEvents_place (u : Ppu) :
    (timedEvents u).dot = u.dot ∧ (timedEvents u).scanline = u.scanline ∧ (timedEvents u).oddFrame = u.oddFrame := by
  unfold timedEvents vblankOnset; dsimp only
  refine ⟨?_, ?_, ?_⟩ <;> (split <;> split <;> split <;> rfl)

theorem timedEvents_wf (u : Ppu) (h : u.Wf) : (timedEvents u).Wf := by
  unfold timedEvents vblankOnset; dsimp only
  split <;> split <;> split <;> exact h

theorem advanceDot_wf (re : Bool) (u : Ppu) (h : u.Wf) : (advanceDot re u).Wf := by
  obtain ⟨h1, h2, h3, h4, h5, h6, h7, h8, h9⟩ := h
  unfold advanceDot; dsimp only
  generalize (if u.scanline = -1 ∧ u.dot = 339 ∧ u.oddFrame = true ∧ re = true then 341 else u.dot + 1) = d
  split
  · split
    · exact ⟨h1, h2, h3, h4, by simp, by simp, h7, h8, h9⟩
    · exact ⟨h1, h2, h3, h4, by simp, ⟨by simp only; omega, by simp only; omega⟩, h7, h8, h9⟩
  · exact ⟨h1, h2, h3, h4, by simp only; omega, h6, h7, h8, h9⟩

theorem renderDot_wf (g : PpuSide) (hs : g.ppu.scanline ≤ 239) (h : g.ppu.Wf) : (renderDot g).ppu.Wf := by
  have hp : (dotPixel g).ppu.Wf := by
    unfold dotPixel; split
    · rename_i hd
      exact emitPixel_wf _ _ ⟨hd.1, hs⟩ (by omega) h
    · exact h
  exact dotSprite_wf _ (dotScroll_wf _ (dotFetch_wf _ hp))

/-- A dot keeps the unit's ranges (R19, R263). -/
theorem ppuTick_wf (g : PpuSide) (h : g.ppu.Wf) : (ppuTick g).ppu.Wf := by
  unfold ppuTick; dsimp only
  refine advanceDot_wf _ _ ?_
  split
  · rename_i hr
    exact renderDot_wf _ (by simpa using hr.2.2) (timedEvents_wf _ h)
  · exact timedEvents_wf _ h

/-! ### Ports -/

theorem palIndex_ok (i : BitVec 5) :
    (palIndex i).toNat ≠ 16 ∧ (palIndex i).toNat ≠ 20 ∧ (palIndex i).toNat ≠ 24 ∧ (palIndex i).toNat ≠ 28 := by
  revert i; decide

@[simp] theorem ppuMemWrite_cpuView (g : PpuSide) (a : BitVec 14) (b : Byte) :
    (ppuMemWrite g a b).cart.cpuView = g.cart.cpuView := by
  unfold ppuMemWrite; split
  · simp
  · split
    · split <;> simp
    · rfl

theorem ppuMemWrite_wf (g : PpuSide) (a : BitVec 14) (b : Byte) (h : g.ppu.Wf) (hc : g.cart.wf = true) :
    (ppuMemWrite g a b).ppu.Wf ∧ (ppuMemWrite g a b).cart.wf = true := by
  obtain ⟨h1, h2, h3, h4, h5, h6, h7, h8, h9⟩ := h
  unfold ppuMemWrite; split
  · exact ⟨⟨h1, h2, h3, h4, h5, h6, h7, h8, h9⟩, Mapper.wf_ppuWrite _ _ _ hc⟩
  · split
    · split
      · exact ⟨⟨h1, h2, h3, h4, h5, h6, h7, h8, h9⟩, Mapper.wf_ppuWrite _ _ _ hc⟩
      · exact ⟨⟨Memory.write_wf _ _ _ _ (ntIndex _ a).isLt h1, h2, h3, h4, h5, h6, h7, h8, h9⟩, hc⟩
    · refine ⟨⟨h1, Memory.write_wf _ _ _ _ (palIndex _).isLt h2, ?_, h4, h5, h6, h7, h8, h9⟩, hc⟩
      exact sparseSet_keys (fun k => k ≠ 16 ∧ k ≠ 20 ∧ k ≠ 24 ∧ k ≠ 28) _ _ _ _ (palIndex_ok _) h3

/-- A port read changes no memory of the unit. -/
theorem ppuPortRead_memories (g : PpuSide) (p : BitVec 3) :
    (ppuPortRead g p).2.ppu.vram = g.ppu.vram ∧ (ppuPortRead g p).2.ppu.pal = g.ppu.pal ∧
      (ppuPortRead g p).2.ppu.oam = g.ppu.oam := by
  unfold ppuPortRead dataRead dataFetch statusRead; dsimp only; repeat' split
  all_goals simp

theorem ppuPortRead_wf (g : PpuSide) (p : BitVec 3) (h : g.ppu.Wf) : (ppuPortRead g p).2.ppu.Wf := by
  unfold ppuPortRead dataRead dataFetch statusRead; dsimp only; repeat' split
  all_goals simpa using h

@[simp] theorem ppuPortWrite_cpuView (g : PpuSide) (p : BitVec 3) (b : Byte) :
    (ppuPortWrite g p b).cart.cpuView = g.cart.cpuView := by
  unfold ppuPortWrite dataWrite; repeat' split
  all_goals simp

/-- A port write keeps the unit's ranges and the cartridge's. -/
theorem ppuPortWrite_wf (g : PpuSide) (p : BitVec 3) (b : Byte) (h : g.ppu.Wf) (hc : g.cart.wf = true) :
    (ppuPortWrite g p b).ppu.Wf ∧ (ppuPortWrite g p b).cart.wf = true := by
  have hm := ppuMemWrite_wf g (vAddr g.ppu) b h hc
  obtain ⟨h1, h2, h3, h4, h5, h6, h7, h8, h9⟩ := h
  unfold ppuPortWrite scrollWrite addrWrite; repeat' split
  all_goals first
    | exact ⟨⟨h1, h2, h3, h4, h5, h6, h7, h8, h9⟩, hc⟩
    | exact ⟨⟨h1, h2, h3, Memory.write_wf _ _ _ _ g.ppu.oamAddr.isLt h4, h5, h6, h7, h8, h9⟩, hc⟩
    | exact hm

end Sys2Proof.Machine
end

