-- ==== Sys2Proof/Laws/Ops.lean ====
section
/-! SUPPORT. What the shared operations do to memory and to the state invariant: reads leave every byte alone, a
write changes the one cell it stores to, and every bus operation keeps a well-formed state well formed. -/

namespace Sys2Proof.Machine

/-! ### The address map -/

theorem ramIndex_lt (a : Word) : ramIndex a < 2048 := (a.setWidth 11).isLt

/-- The stack lies in work RAM (R12, R14). -/
@[simp] theorem regionOf_stackAddr (sp : Byte) : regionOf (stackAddr sp) = .ram := by
  have h : stackAddr sp ≤ 0x1FFF := by
    unfold stackAddr zext16; revert sp; decide
  exact if_pos h

/-- The stack address of `sp` is byte `256 + sp` of work RAM (R14, R38). -/
@[simp] theorem ramIndex_stackAddr (sp : Byte) : ramIndex (stackAddr sp) = 256 + sp.toNat := by
  unfold ramIndex stackAddr zext16; revert sp; decide

/-- The zero page lies in work RAM (R38). -/
@[simp] theorem regionOf_zeroPage (b : Byte) : regionOf (zext16 b) = .ram := by
  have h : zext16 b ≤ 0x1FFF := by unfold zext16; revert b; decide
  exact if_pos h

@[simp] theorem ramIndex_zeroPage (b : Byte) : ramIndex (zext16 b) = b.toNat := by
  unfold ramIndex zext16; revert b; decide

/-- An address of work RAM (R31). -/
theorem regionOf_ram_iff (a : Word) : regionOf a = .ram ↔ a ≤ 0x1FFF := by
  unfold regionOf; repeat' split
  all_goals simp_all

/-! ### Bytes of plain storage -/

theorem State.byteAt_eq (s : State) (a : Word) :
    s.byteAt a =
      match regionOf a with
      | .ram => some (s.ram.read (ramIndex a))
      | .cartridge =>
        s.cart.cpuView.map fun c => if a.msb then c.1.read (prgIndex a) else c.2.read (wramIndex a)
      | _ => none := by
  unfold State.byteAt
  cases regionOf a <;> cases s.cart <;> rfl

/-- A byte of plain storage depends on work RAM and on the CPU's side of the cartridge only. -/
theorem State.byteAt_congr (s t : State) (hr : t.ram = s.ram) (hc : t.cart.cpuView = s.cart.cpuView) (a : Word) :
    t.byteAt a = s.byteAt a := by
  simp only [State.byteAt_eq, hr, hc]

@[simp] theorem State.tick_cpuView (s : State) : s.tick.cart.cpuView = s.cart.cpuView := by simp

@[simp] theorem State.busRead_cpuView (s : State) (a : Word) : (s.busRead a).2.cart.cpuView = s.cart.cpuView := by
  unfold State.busRead; cases regionOf a <;> dsimp only <;> try simp
  split <;> simp

@[simp] theorem State.read_cpuView (s : State) (a : Word) : (s.read a).2.cart.cpuView = s.cart.cpuView := by
  rw [State.read_eq, State.busRead_cpuView, State.tick_cpuView]

@[simp] theorem State.byteAt_tick (s : State) (a : Word) : s.tick.byteAt a = s.byteAt a :=
  State.byteAt_congr _ _ (by simp) (State.tick_cpuView s) a

/-- A read cycle leaves every byte of plain storage alone. -/
@[simp] theorem State.byteAt_read (s : State) (a b : Word) : (s.read a).2.byteAt b = s.byteAt b :=
  State.byteAt_congr _ _ (by simp) (by simp) b

/-- A read cycle of plain storage returns the byte held there (R34, R36, R346). -/
theorem State.read_plain (s : State) (a : Word) (v : Byte) (h : s.byteAt a = some v) : (s.read a).1 = v := by
  have ht : s.tick.byteAt a = some v := by rw [State.byteAt_tick, h]
  rw [State.read_eq]
  generalize s.tick = t at ht
  unfold State.byteAt at ht
  unfold State.busRead
  cases hr : regionOf a <;> rw [hr] at ht <;> cases hc : t.cart <;> rw [hc] at ht <;> simp_all

/-- A read cycle of a work RAM address returns the byte of `ram` it maps to (R36, R38). -/
theorem State.read_ram_byte (s : State) (a : Word) (h : regionOf a = .ram) :
    (s.read a).1 = s.ram.read (ramIndex a) :=
  State.read_plain s a _ (by simp [State.byteAt_eq, h])

/-! ### The picture unit's memories under reads -/

theorem State.busRead_memories (s : State) (a : Word) :
    (s.busRead a).2.ppu.vram = s.ppu.vram ∧ (s.busRead a).2.ppu.pal = s.ppu.pal ∧
      (s.busRead a).2.ppu.oam = s.ppu.oam := by
  unfold State.busRead
  cases regionOf a <;> dsimp only <;> try exact ⟨rfl, rfl, rfl⟩
  split
  · exact ppuPortRead_memories _ _
  · exact ⟨rfl, rfl, rfl⟩

theorem SameMemory.refl (s : State) : SameMemory s s := ⟨fun _ => rfl, rfl, rfl, rfl, fun _ h => h⟩

theorem SameMemory.trans {s t u : State} (h : SameMemory s t) (k : SameMemory t u) : SameMemory s u :=
  ⟨fun a => (k.1 a).trans (h.1 a), k.2.1.trans h.2.1, k.2.2.1.trans h.2.2.1, k.2.2.2.1.trans h.2.2.2.1,
    fun f hf => k.2.2.2.2 f (h.2.2.2.2 f hf)⟩

/-- Memories that agree part by part agree. -/
theorem SameMemory.of_parts {s t : State} (hr : t.ram = s.ram) (hf : t.cart.flat = s.cart.flat)
    (hv : t.ppu.vram = s.ppu.vram) (hp : t.ppu.pal = s.ppu.pal) (ho : t.ppu.oam = s.ppu.oam) : SameMemory s t := by
  refine ⟨State.byteAt_congr s t hr ?_, hv, hp, ho, ?_⟩
  · revert hf; cases t.cart <;> cases s.cart <;> simp [Mapper.flat, Mapper.cpuView]
    rintro rfl; simp
  · intro f h
    rw [h] at hf
    revert hf; cases t.cart <;> simp [Mapper.flat]

@[simp] theorem State.busRead_flat (s : State) (a : Word) : (s.busRead a).2.cart.flat = s.cart.flat := by
  unfold State.busRead; cases regionOf a <;> dsimp only <;> try simp
  split <;> simp

theorem State.tick_same (s : State) : SameMemory s s.tick :=
  SameMemory.of_parts rfl (by simp) (by simp) (by simp) (by simp)

theorem State.busRead_same (s : State) (a : Word) : SameMemory s (s.busRead a).2 :=
  have h := State.busRead_memories s a
  SameMemory.of_parts (by simp) (by simp) h.1 h.2.1 h.2.2

theorem State.read_same (s : State) (a : Word) : SameMemory s (s.read a).2 :=
  (State.tick_same s).trans (State.busRead_same _ a)

theorem State.readWord_same (s : State) (a : Word) : SameMemory s (s.readWord a).2 :=
  (State.read_same _ _).trans (State.read_same _ _)

theorem indexed_same (u : Use) (base : Word) (i : Byte) (s : State) : SameMemory s (indexed u base i s).2 := by
  unfold indexed; dsimp only; split
  · exact State.tick_same s
  · exact SameMemory.refl s

theorem zeroPagePointer_same (p : Byte) (s : State) : SameMemory s (zeroPagePointer p s).2 :=
  (State.read_same _ _).trans (State.read_same _ _)

/-- An addressing mode changes no byte of memory (R64 to R72). -/
theorem effAddr_same (u : Use) (o : Operand) (s : State) : SameMemory s (effAddr u o s).2 := by
  cases o with
  | imm => exact SameMemory.refl s
  | zp => exact SameMemory.refl s
  | zpx => exact State.tick_same s
  | zpy => exact State.tick_same s
  | abs => exact SameMemory.refl s
  | abx => exact indexed_same _ _ _ _
  | aby => exact indexed_same _ _ _ _
  | izx => exact (State.tick_same s).trans (zeroPagePointer_same _ _)
  | izy => exact (zeroPagePointer_same _ _).trans (indexed_same _ _ _ _)

/-- A read-type operand changes no byte of memory (R75). -/
theorem readOp_same (o : Operand) (s : State) : SameMemory s (readOp o s).2 := by
  cases o <;> first
    | exact SameMemory.refl s
    | exact (effAddr_same .readType _ s).trans (State.read_same _ _)

/-! ### Stores -/

theorem State.busWriteDirect_byteAt_other (s : State) (a b : Word) (v : Byte) (h : OutsideStore a b) :
    (s.busWriteDirect a v).byteAt b = s.byteAt b := by
  unfold State.busWriteDirect
  cases hr : regionOf a <;> dsimp only
  case ram =>
    simp only [State.byteAt_eq]
    cases hb : regionOf b <;> dsimp only
    rw [Memory.read_write_other]
    intro hi
    exact h ⟨hb.trans hr.symm, fun _ => hi, fun hx => absurd (hb.symm.trans hx) (by decide)⟩
  case cartridge =>
    simp only [State.byteAt_eq]
    cases hb : regionOf b <;> dsimp only
    cases hc : s.cart with
    | custom st => rfl
    | flat32 f =>
      have hne : b ≠ a := fun he =>
        h ⟨congrArg regionOf he, fun hx => absurd (hb.symm.trans hx) (by decide), fun _ => he⟩
      simp only [Mapper.cpuWrite]
      by_cases ha : a.msb = true
      · simp only [ha, if_true]
      · by_cases hbm : b.msb = true
        · simp only [ha, hbm, if_true, if_false, Bool.false_eq_true, Mapper.cpuView, Option.map_some]
        · simp only [ha, hbm, if_false, Bool.false_eq_true, Mapper.cpuView, Option.map_some]
          rw [Memory.read_write_other]
          intro hi
          apply hne
          have hbl : 0x6000 ≤ b ∧ b < 0x8000 := by
            constructor
            · unfold regionOf at hb; repeat' split at hb
              all_goals simp_all
              all_goals bv_omega
            · simp only [BitVec.msb_eq_decide] at hbm; simp at hbm; bv_omega
          have hal : 0x6000 ≤ a ∧ a < 0x8000 := by
            constructor
            · unfold regionOf at hr; repeat' split at hr
              all_goals simp_all
              all_goals bv_omega
            · simp only [BitVec.msb_eq_decide] at ha; simp at ha; bv_omega
          simp only [wramIndex, BitVec.toNat_setWidth] at hi
          bv_omega
  case ppuPort =>
    exact State.byteAt_congr s (s.withPpuSide (ppuPortWrite s.ppuSide (ppuPortOf a) v)) rfl (by simp) b
  all_goals rfl

theorem State.busWriteDirect_cpuView_port (s : State) (a : Word) (v : Byte) (h : regionOf a ≠ .cartridge) :
    (s.busWriteDirect a v).cart.cpuView = s.cart.cpuView := by
  unfold State.busWriteDirect
  cases hr : regionOf a <;> dsimp only <;> simp_all

theorem State.busWriteDirect_ram_port (s : State) (a : Word) (v : Byte) (h : regionOf a ≠ .ram) :
    (s.busWriteDirect a v).ram = s.ram := by
  unfold State.busWriteDirect
  cases hr : regionOf a <;> simp_all

theorem regionOf_oamData : regionOf 0x2004 = .ppuPort := by decide

/-- The OAM DMA changes no byte of plain storage: it reads the page and writes OAMDATA (R44). -/
theorem dmaBytes_plain (page : Byte) : ∀ n i s,
    (dmaBytes page n i s).ram = s.ram ∧ (dmaBytes page n i s).cart.cpuView = s.cart.cpuView
  | 0, _, _ => ⟨rfl, rfl⟩
  | n + 1, i, s => by
    have h := dmaBytes_plain page n (i + 1)
      ((s.read (pageAddr page i)).2.writeDirect 0x2004 (s.read (pageAddr page i)).1)
    simp only [dmaBytes]
    rw [h.1, h.2]
    simp only [State.writeDirect_eq]
    rw [State.busWriteDirect_ram_port _ _ _ (by decide), State.busWriteDirect_cpuView_port _ _ _ (by decide)]
    exact ⟨by simp only [State.tick_ram, State.read_ram], by rw [State.tick_cpuView, State.read_cpuView]⟩

theorem State.oamDma_byteAt (s : State) (page : Byte) (b : Word) : (s.oamDma page).byteAt b = s.byteAt b := by
  unfold State.oamDma; dsimp only
  refine State.byteAt_congr _ _ ?_ ?_ b
  · rw [(dmaBytes_plain page _ _ _).1]; split <;> rfl
  · rw [(dmaBytes_plain page _ _ _).2]; split <;> simp only [State.tick_cpuView]

theorem State.busWrite_byteAt_other (s : State) (a b : Word) (v : Byte) (h : OutsideStore a b) :
    (s.busWrite a v).byteAt b = s.byteAt b := by
  unfold State.busWrite; split
  · exact State.oamDma_byteAt _ _ _
  · exact State.busWriteDirect_byteAt_other _ _ _ _ h

/-- A write cycle leaves every byte of plain storage outside the cell it stores to alone. -/
theorem State.write_byteAt_other (s : State) (a b : Word) (v : Byte) (h : OutsideStore a b) :
    (s.write a v).byteAt b = s.byteAt b := by
  rw [State.write_eq, State.busWrite_byteAt_other _ _ _ _ h, State.byteAt_tick]

/-- A write cycle to work RAM stores the byte, and nothing else changes but time (R35, R37). -/
theorem State.write_ram (s : State) (a : Word) (v : Byte) (h : regionOf a = .ram) :
    s.write a v = { s.tick with ram := s.ram.write (ramIndex a) v } := by
  rw [State.write_eq]
  simp [State.busWrite, State.busWriteDirect, h]

theorem State.write_byteAt_ram (s : State) (a : Word) (v : Byte) (h : regionOf a = .ram) :
    (s.write a v).byteAt a = some v := by
  rw [State.write_ram _ _ _ h]; simp [State.byteAt_eq, h]

/-- A write cycle to a `FLAT32` stores in its work memory and does nothing to its program memory (R346). -/
theorem State.write_byteAt_flat (s : State) (a : Word) (v : Byte) (f : Flat32) (hc : s.cart = .flat32 f)
    (h : regionOf a = .cartridge) : (s.write a v).byteAt a = if a.msb then s.byteAt a else some v := by
  have hf : s.tick.cart.flat = s.cart.flat := by simp
  rw [hc] at hf
  obtain ⟨g, hg⟩ : ∃ g, s.tick.cart = .flat32 g := by
    cases hx : s.tick.cart with
    | flat32 g => exact ⟨g, rfl⟩
    | custom st => rw [hx] at hf; simp [Mapper.flat] at hf
  rw [← State.byteAt_tick s a, State.write_eq]
  have hd : regionOf a ≠ .dmaPort := by rw [h]; decide
  rw [State.busWrite, if_neg hd]
  simp only [State.busWriteDirect, h, State.byteAt_eq, hg, Mapper.cpuWrite]
  by_cases hm : a.msb = true
  · simp only [hm, if_true]
  · simp only [hm, if_false, Bool.false_eq_true, Mapper.cpuView, Option.map_some, Memory.read_write_self]

/-- A write cycle that goes to no port of the picture unit leaves its memories alone (R37). -/
theorem State.write_memories (s : State) (a : Word) (v : Byte) (hp : regionOf a ≠ .ppuPort)
    (hd : regionOf a ≠ .dmaPort) :
    (s.write a v).ppu.vram = s.ppu.vram ∧ (s.write a v).ppu.pal = s.ppu.pal ∧ (s.write a v).ppu.oam = s.ppu.oam := by
  rw [State.write_eq]
  simp only [State.busWrite, hd, if_false, State.busWriteDirect]
  cases h : regionOf a <;> simp_all

/-- A push is a write cycle to work RAM (R14). -/
theorem State.push_eq (s : State) (v : Byte) :
    s.push v = { s.tick with ram := s.ram.write (256 + s.sp.toNat) v, sp := s.sp - 1 } := by
  simp [State.push, State.write_ram]

/-- A pull reads work RAM and moves `SP`; nothing else changes but time (R14). -/
theorem State.pull_eq (s : State) :
    s.pull = (s.ram.read (256 + (s.sp + 1).toNat), { s.tick with sp := s.sp + 1 }) := by
  simp only [State.pull, State.read_eq, State.busRead, regionOf_stackAddr, ramIndex_stackAddr]
  rfl

theorem State.push_byteAt_other (s : State) (v : Byte) (b : Word) (h : OutsideStore (stackAddr s.sp) b) :
    (s.push v).byteAt b = s.byteAt b := by
  have := State.write_byteAt_other s (stackAddr s.sp) b v h
  rw [← this]; rfl

theorem State.pull_same (s : State) : SameMemory s s.pull.2 := by
  rw [State.pull_eq]
  exact State.tick_same s

/-! ### The status register and the bus do not meet -/

theorem State.tick_withP (s : State) (q : Byte) : ({ s with p := q } : State).tick = { s.tick with p := q } := rfl

theorem State.busRead_withP (s : State) (q : Byte) (a : Word) :
    ({ s with p := q } : State).busRead a = ((s.busRead a).1, { (s.busRead a).2 with p := q }) := by
  unfold State.busRead; cases regionOf a <;> dsimp only <;> try rfl
  split <;> rfl

theorem State.read_withP (s : State) (q : Byte) (a : Word) :
    ({ s with p := q } : State).read a = ((s.read a).1, { (s.read a).2 with p := q }) := by
  rw [State.read_eq, State.tick_withP, State.busRead_withP]; rfl

theorem State.busWriteDirect_withP (s : State) (q : Byte) (a : Word) (v : Byte) :
    ({ s with p := q } : State).busWriteDirect a v = { s.busWriteDirect a v with p := q } := by
  unfold State.busWriteDirect; cases regionOf a <;> rfl

theorem State.writeDirect_withP (s : State) (q : Byte) (a : Word) (v : Byte) :
    ({ s with p := q } : State).writeDirect a v = { s.writeDirect a v with p := q } := by
  rw [State.writeDirect_eq, State.tick_withP, State.busWriteDirect_withP]; rfl

theorem dmaBytes_withP (page q : Byte) : ∀ n i (s : State),
    dmaBytes page n i { s with p := q } = { dmaBytes page n i s with p := q }
  | 0, _, _ => rfl
  | n + 1, i, s => by
    simp only [dmaBytes, State.read_withP, State.writeDirect_withP]
    exact dmaBytes_withP page q n (i + 1) _

/-- A write cycle neither reads nor changes `P`. -/
theorem State.write_withP (s : State) (q : Byte) (a : Word) (v : Byte) :
    ({ s with p := q } : State).write a v = { s.write a v with p := q } := by
  rw [State.write_eq, State.write_eq, State.tick_withP]
  unfold State.busWrite
  split
  · unfold State.oamDma
    have : dmaAligns { s.tick with p := q } = dmaAligns s.tick := rfl
    simp only [this, State.tick_withP]
    split <;> exact dmaBytes_withP _ _ _ _ _
  · exact State.busWriteDirect_withP _ _ _ _

/-- A read of a word neither reads nor changes `P`. -/
theorem State.readWord_withP (s : State) (q : Byte) (a : Word) :
    ({ s with p := q } : State).readWord a = ((s.readWord a).1, { (s.readWord a).2 with p := q }) := by
  simp only [State.readWord, State.read_withP]

/-! ### The state invariant -/

theorem State.tick_wf (s : State) (h : s.Wf) : s.tick.Wf := by
  obtain ⟨h1, h2, h3, h4, h5⟩ := h
  exact ⟨h1, h2, ppuTick_wf _ (ppuTick_wf _ (ppuTick_wf _ h3)), apuTick_wf _ h4, by simpa using h5⟩

theorem State.ticks_wf : ∀ n (s : State), s.Wf → (State.ticks n s).Wf
  | 0, _, h => h
  | n + 1, s, h => State.ticks_wf n s.tick (State.tick_wf s h)

theorem State.busRead_wf (s : State) (a : Word) (h : s.Wf) : (s.busRead a).2.Wf := by
  obtain ⟨h1, h2, h3, h4, h5⟩ := h
  unfold State.busRead
  cases regionOf a <;> dsimp only <;> try exact ⟨h1, h2, h3, h4, h5⟩
  · split
    · exact ⟨h1, h2, ppuPortRead_wf _ _ h3, h4, by simpa using h5⟩
    · exact ⟨h1, h2, h3, h4, h5⟩
  · exact ⟨h1, h2, h3, h4, by simpa using h5⟩

theorem State.read_wf (s : State) (a : Word) (h : s.Wf) : (s.read a).2.Wf :=
  State.busRead_wf _ _ (State.tick_wf _ h)

theorem State.busWriteDirect_wf (s : State) (a : Word) (v : Byte) (h : s.Wf) : (s.busWriteDirect a v).Wf := by
  obtain ⟨h1, h2, h3, h4, h5⟩ := h
  unfold State.busWriteDirect
  cases regionOf a <;> dsimp only
  case ram => exact ⟨Memory.write_wf _ _ _ _ (ramIndex_lt a) h1, h2, h3, h4, h5⟩
  case ppuPort =>
    have hw := ppuPortWrite_wf s.ppuSide (ppuPortOf a) v h3 h5
    exact ⟨h1, h2, hw.1, h4, hw.2⟩
  case cartridge => exact ⟨h1, h2, h3, h4, Mapper.wf_cpuWrite _ _ _ h5⟩
  case pad1 => exact ⟨h1, h2, h3, h4, h5⟩
  case dmaPort => exact ⟨h1, h2, h3, h4, h5⟩
  case unused => exact ⟨h1, h2, h3, h4, h5⟩
  all_goals exact ⟨h1, h2, h3, apuWrite_wf _ _ _ h4, h5⟩

theorem dmaBytes_wf (page : Byte) : ∀ n i s, State.Wf s → (dmaBytes page n i s).Wf
  | 0, _, _, h => h
  | n + 1, i, s, h =>
    dmaBytes_wf page n (i + 1) _
      (State.busWriteDirect_wf _ _ _ (State.tick_wf _ (State.read_wf s (pageAddr page i) h)))

theorem State.busWrite_wf (s : State) (a : Word) (v : Byte) (h : s.Wf) : (s.busWrite a v).Wf := by
  unfold State.busWrite State.oamDma; dsimp only; split
  · refine dmaBytes_wf _ _ _ _ ?_
    split
    · exact State.tick_wf _ (State.tick_wf _ h)
    · exact State.tick_wf _ h
  · exact State.busWriteDirect_wf _ _ _ h

theorem State.write_wf (s : State) (a : Word) (v : Byte) (h : s.Wf) : (s.write a v).Wf :=
  State.busWrite_wf _ _ _ (State.tick_wf _ h)

theorem State.readWord_wf (s : State) (a : Word) (h : s.Wf) : (s.readWord a).2.Wf :=
  State.read_wf _ _ (State.read_wf _ _ h)

theorem State.push_wf (s : State) (v : Byte) (h : s.Wf) : (s.push v).Wf := State.write_wf _ _ _ h

theorem State.pull_wf (s : State) (h : s.Wf) : s.pull.2.Wf := State.read_wf ({ s with sp := s.sp + 1 }) _ h

theorem State.pushWord_wf (s : State) (w : Word) (h : s.Wf) : (s.pushWord w).Wf :=
  State.push_wf _ _ (State.push_wf _ _ h)

theorem State.pullWord_wf (s : State) (h : s.Wf) : s.pullWord.2.Wf := State.pull_wf _ (State.pull_wf _ h)

theorem effAddr_wf (u : Use) (o : Operand) (s : State) (h : s.Wf) : (effAddr u o s).2.Wf := by
  have hi : ∀ base i (t : State), t.Wf → (indexed u base i t).2.Wf := by
    intro base i t ht
    unfold indexed; dsimp only; split
    · exact State.tick_wf _ ht
    · exact ht
  have hz : ∀ p (t : State), t.Wf → (zeroPagePointer p t).2.Wf := fun p t ht => State.read_wf _ _ (State.read_wf _ _ ht)
  cases o with
  | imm => exact h
  | zp => exact h
  | zpx => exact State.tick_wf _ h
  | zpy => exact State.tick_wf _ h
  | abs => exact h
  | abx => exact hi _ _ _ h
  | aby => exact hi _ _ _ h
  | izx => exact hz _ _ (State.tick_wf _ h)
  | izy => exact hi _ _ _ (hz _ _ h)

theorem readOp_wf (o : Operand) (s : State) (h : s.Wf) : (readOp o s).2.Wf := by
  cases o <;> first
    | exact h
    | exact State.read_wf _ _ (effAddr_wf .readType _ s h)

theorem writeOp_wf (o : Operand) (v : Byte) (s : State) (h : s.Wf) : (writeOp o v s).Wf :=
  State.write_wf _ _ _ (effAddr_wf .writeType o s h)

end Sys2Proof.Machine
end

