-- ==== Sys2Proof/Laws/Clock.lean ====
section
/-! SUPPORT. How much time a shared operation takes: each is a run of CPU cycles (`ClockedRun`), so a claim about time
composes these lemmas and never unfolds a bus access. -/

namespace Sys2Proof.Machine

/-! ### No time passes -/

theorem SameMoment.refl (s : State) : SameMoment s s := ⟨rfl, rfl, rfl⟩

theorem SameMoment.trans {s t u : State} (h : SameMoment s t) (k : SameMoment t u) : SameMoment s u :=
  ⟨k.1.trans h.1, k.2.1.trans h.2.1, k.2.2.trans h.2.2⟩

/-- A change of what is neither the counter nor one of the two units takes no time. -/
theorem SameMoment.of_eq {s t : State} (hc : t.cycle = s.cycle) (hp : t.ppu = s.ppu) (ha : t.apu = s.apu) :
    SameMoment s t := by
  unfold SameMoment; rw [hc, hp, ha]; exact SameMoment.refl s

/-- A read of a port moves nothing on that only a dot moves. -/
@[simp] theorem ppuPortRead_movedByDots (g : PpuSide) (p : BitVec 3) :
    (ppuPortRead g p).2.ppu.movedByDots = g.ppu.movedByDots := by
  unfold ppuPortRead dataRead dataFetch statusRead; dsimp only; repeat' split
  all_goals simp [Ppu.movedByDots]

theorem ppuMemWrite_movedByDots (g : PpuSide) (a : BitVec 14) (b : Byte) :
    (ppuMemWrite g a b).ppu.movedByDots = g.ppu.movedByDots := by
  unfold ppuMemWrite; split
  · rfl
  · split
    · split <;> rfl
    · rfl

/-- A write to a port moves nothing on that only a dot moves. -/
@[simp] theorem ppuPortWrite_movedByDots (g : PpuSide) (p : BitVec 3) (b : Byte) :
    (ppuPortWrite g p b).ppu.movedByDots = g.ppu.movedByDots := by
  have hw : ∀ u : Ppu, (scrollWrite u b).movedByDots = u.movedByDots ∧ (addrWrite u b).movedByDots = u.movedByDots := by
    intro u; unfold scrollWrite addrWrite; constructor <;> split <;> rfl
  unfold ppuPortWrite
  split_ifs
  all_goals first
    | rfl
    | exact (hw _).1
    | exact (hw _).2
    | exact ppuMemWrite_movedByDots _ _ _

theorem State.busRead_moment (s : State) (a : Word) : SameMoment s (s.busRead a).2 := by
  unfold State.busRead
  cases regionOf a <;> dsimp only <;> try exact SameMoment.of_eq rfl rfl rfl
  split
  · exact ⟨rfl, ppuPortRead_movedByDots _ _, rfl⟩
  · exact SameMoment.of_eq rfl rfl rfl

/-- A write to a register of the audio unit moves nothing on that only a tick moves. -/
@[simp] theorem apuWrite_movedByTicks (u : Apu) (a : Word) (b : Byte) :
    (apuWrite u a b).movedByTicks = u.movedByTicks := by
  have hp : ∀ (ch : Pulse) r, (pulseWrite ch r b).timer = ch.timer := by
    intro ch r; unfold pulseWrite; split_ifs <;> rfl
  have ht : ∀ (ch : Triangle) r, (triWrite ch r b).timer = ch.timer ∧ (triWrite ch r b).pos = ch.pos := by
    intro ch r; unfold triWrite; split_ifs <;> exact ⟨rfl, rfl⟩
  have hn : ∀ (ch : Noise) r, (noiseWrite ch r b).timer = ch.timer ∧ (noiseWrite ch r b).lfsr = ch.lfsr := by
    intro ch r; unfold noiseWrite; split_ifs <;> exact ⟨rfl, rfl⟩
  have hf : (frameWrite u b).movedByTicks = u.movedByTicks := by unfold frameWrite; dsimp only; split <;> rfl
  unfold apuWrite
  split_ifs
  all_goals first
    | exact hf
    | rfl
    | simp only [Apu.movedByTicks, hp, ht, hn]

theorem State.busWriteDirect_moment (s : State) (a : Word) (v : Byte) : SameMoment s (s.busWriteDirect a v) := by
  unfold State.busWriteDirect
  cases regionOf a <;> dsimp only <;> try first
    | exact SameMoment.of_eq rfl rfl rfl
    | exact ⟨rfl, rfl, apuWrite_movedByTicks _ _ _⟩
  exact ⟨rfl, ppuPortWrite_movedByDots _ _ _, rfl⟩

/-! ### Runs of cycles -/

theorem ClockedRun.refl (s : State) : ClockedRun 0 s s := .done (SameMoment.refl s)

theorem ClockedRun.after {n : Nat} {s r t : State} (h : SameMoment s r) (k : ClockedRun n r t) : ClockedRun n s t := by
  cases k with
  | done k => exact .done (h.trans k)
  | cycle k l => exact .cycle (h.trans k) l

theorem ClockedRun.trans {m n : Nat} {s t u : State} (h : ClockedRun m s t) (k : ClockedRun n t u) :
    ClockedRun (m + n) s u := by
  induction h with
  | done h => rw [Nat.zero_add]; exact k.after h
  | cycle h _ ih => rw [Nat.add_right_comm]; exact .cycle h (ih k)

theorem ClockedRun.before {n : Nat} {s r t : State} (h : ClockedRun n s r) (k : SameMoment r t) : ClockedRun n s t :=
  h.trans (.done k)

theorem ClockedRun.tick (s : State) : ClockedRun 1 s s.tick := .cycle (SameMoment.refl s) (.refl _)

/-- A run of `n` cycles counts `n`. -/
theorem ClockedRun.counts {n : Nat} {s t : State} (h : ClockedRun n s t) : t.cycle = s.cycle + n := by
  induction h with
  | done h => exact h.1
  | cycle h _ ih => rw [ih, State.tick_cycle, h.1]; omega

theorem State.ticks_run : ∀ n (s : State), ClockedRun n s (State.ticks n s)
  | 0, s => .refl s
  | n + 1, s => .cycle (SameMoment.refl s) (State.ticks_run n s.tick)

theorem State.read_run (s : State) (a : Word) : ClockedRun 1 s (s.read a).2 :=
  (ClockedRun.tick s).before (State.busRead_moment s.tick a)

theorem State.writeDirect_run (s : State) (a : Word) (v : Byte) : ClockedRun 1 s (s.writeDirect a v) :=
  (ClockedRun.tick s).before (State.busWriteDirect_moment s.tick a v)

theorem dmaBytes_run (page : Byte) : ∀ n i s, ClockedRun (2 * n) s (dmaBytes page n i s)
  | 0, _, s => .refl s
  | n + 1, i, s => by
    rw [Nat.mul_succ, Nat.add_comm]
    exact ((State.read_run s _).trans (State.writeDirect_run _ _ _)).trans (dmaBytes_run page n (i + 1) _)

/-- A write cycle is one cycle, and where it starts an OAM DMA as many more as that takes. -/
theorem State.write_run (s : State) (a : Word) (v : Byte) : ∃ n, ClockedRun n s (s.write a v) := by
  rw [State.write_eq]
  unfold State.busWrite State.oamDma; dsimp only
  split
  · split
    · exact ⟨_, (((ClockedRun.tick s).trans (.tick _)).trans (.tick _)).trans (dmaBytes_run v 256 0 _)⟩
    · exact ⟨_, ((ClockedRun.tick s).trans (.tick _)).trans (dmaBytes_run v 256 0 _)⟩
  · exact ⟨_, State.writeDirect_run s a v⟩

theorem State.push_run (s : State) (v : Byte) : ∃ n, ClockedRun n s (s.push v) :=
  let ⟨n, h⟩ := State.write_run s (stackAddr s.sp) v
  ⟨n, h.before (SameMoment.of_eq rfl rfl rfl)⟩

theorem State.pull_run (s : State) : ClockedRun 1 s s.pull.2 :=
  ClockedRun.after (r := { s with sp := s.sp + 1 }) (SameMoment.of_eq rfl rfl rfl) (State.read_run _ _)

theorem effAddr_run (u : Use) (o : Operand) (s : State) : ∃ n, ClockedRun n s (effAddr u o s).2 := by
  have hi : ∀ base i (t : State), ∃ n, ClockedRun n t (indexed u base i t).2 := by
    intro base i t
    unfold indexed; dsimp only; split
    · exact ⟨_, .tick t⟩
    · exact ⟨_, .refl t⟩
  have hz : ∀ p (t : State), ClockedRun (1 + 1) t (zeroPagePointer p t).2 := fun p t =>
    (State.read_run t _).trans (State.read_run _ _)
  cases o with
  | imm => exact ⟨_, .refl s⟩
  | zp => exact ⟨_, .refl s⟩
  | zpx => exact ⟨_, .tick s⟩
  | zpy => exact ⟨_, .tick s⟩
  | abs => exact ⟨_, .refl s⟩
  | abx => exact hi _ _ _
  | aby => exact hi _ _ _
  | izx => exact ⟨_, (ClockedRun.tick s).trans (hz _ _)⟩
  | izy b =>
    obtain ⟨n, h⟩ := hi (zeroPagePointer b s).1 (zeroPagePointer b s).2.y (zeroPagePointer b s).2
    exact ⟨_, (hz b s).trans h⟩

theorem readOp_run (o : Operand) (s : State) : ∃ n, ClockedRun n s (readOp o s).2 := by
  obtain ⟨n, h⟩ := effAddr_run .readType o s
  cases o <;> first
    | exact ⟨_, .refl s⟩
    | exact ⟨_, h.trans (State.read_run _ _)⟩

theorem writeOp_run (o : Operand) (v : Byte) (s : State) : ∃ n, ClockedRun n s (writeOp o v s) := by
  obtain ⟨n, h⟩ := effAddr_run .writeType o s
  obtain ⟨m, k⟩ := State.write_run (effAddr .writeType o s).2 (effAddr .writeType o s).1 v
  exact ⟨_, h.trans k⟩

theorem rmwOp_run (o : Operand) (f : Byte → Byte → Modified) (s : State) : ∃ n, ClockedRun n s (rmwOp o f s).2 := by
  obtain ⟨n, h⟩ := effAddr_run .writeType o s
  have h1 := (h.trans (State.read_run _ (effAddr .writeType o s).1)).trans (.tick _)
  unfold rmwOp; dsimp only
  generalize ((effAddr .writeType o s).2.read (effAddr .writeType o s).1).2.tick = t at h1 ⊢
  generalize ((effAddr .writeType o s).2.read (effAddr .writeType o s).1).1 = m
  have h2 : SameMoment t { t with p := (f t.p m).status } := SameMoment.of_eq rfl rfl rfl
  obtain ⟨k, h3⟩ := State.write_run { t with p := (f t.p m).status } (effAddr .writeType o s).1 (f t.p m).byte
  exact ⟨_, h1.trans (h3.after h2)⟩

end Sys2Proof.Machine
end

