-- ==== Sys2Proof/Laws/Flags.lean ====
section
/-! SUPPORT. The flag computations of Flags.lean in the vocabulary of the claims: each says which flags it sets, to what,
and that it keeps the others. -/

namespace Sys2Proof.Machine

/-- A bit set, read at the same place. -/
theorem setBit_self (p : Byte) (f : Nat) (v : Bool) (hf : f < 8) : (setBit p f v).getLsbD f = v := by
  rw [getLsbD_setBit p f v f hf, if_pos rfl]

/-- A bit set, read at another place. -/
theorem setBit_other (p : Byte) (f i : Nat) (v : Bool) (hf : f < 8) (h : i ≠ f) :
    (setBit p f v).getLsbD i = p.getLsbD i := by
  rw [getLsbD_setBit p f v i hf, if_neg h]

theorem bitFrom_setBit (p : Byte) (f : Nat) (v : Bool) (hf : f < 8) : BitFrom p (setBit p f v) f v :=
  ⟨setBit_self p f v hf, fun i hi => setBit_other p f i v hf hi⟩

theorem setNZ_N (p v : Byte) : (setNZ p v).getLsbD flagN = v.getLsbD 7 := by
  rw [getLsbD_setNZ, if_neg (by decide), if_pos rfl]

theorem setNZ_Z (p v : Byte) : (setNZ p v).getLsbD flagZ = decide (v = 0) := by
  rw [getLsbD_setNZ, if_pos rfl]

theorem setNZ_other (p v : Byte) (i : Nat) (hn : i ≠ flagN) (hz : i ≠ flagZ) :
    (setNZ p v).getLsbD i = p.getLsbD i := by
  rw [getLsbD_setNZ, if_neg hz, if_neg hn]

/-- `SetNZ` (R7). -/
theorem nzFrom_setNZ (p v : Byte) : NZFrom p v (setNZ p v) :=
  ⟨setNZ_N p v, setNZ_Z p v, fun i h1 h2 => setNZ_other p v i h1 h2⟩

theorem adcResult_toNat (p a m : Byte) :
    (adcResult p a m).toNat = (a.toNat + m.toNat + (p.getLsbD flagC).toNat) % 256 := by
  simp [adcResult, adcSum]

theorem getLsbD7_eq (b : Byte) : b.getLsbD 7 = decide (128 ≤ b.toNat) := by
  revert b; decide

theorem toInt_eq (b : Byte) : b.toInt = if 128 ≤ b.toNat then (b.toNat : Int) - 256 else b.toNat := by
  rw [BitVec.toInt_eq_toNat_cond]; split <;> split <;> omega

theorem sign_and (x : Byte) : (x &&& 0x80 ≠ 0) ↔ x.getLsbD 7 = true := by
  revert x; decide

/-- The V of R120 is the two's-complement overflow. -/
theorem adcOverflow_signed (p a m : Byte) :
    adcOverflow p a m =
      decide (a.toInt + m.toInt + ((p.getLsbD flagC).toNat : Int) < -128 ∨
        127 < a.toInt + m.toInt + ((p.getLsbD flagC).toNat : Int)) := by
  have hs := adcResult_toNat p a m
  have hc : (p.getLsbD flagC).toNat ≤ 1 := Bool.toNat_le _
  unfold adcOverflow
  simp only [sign_and]
  rw [BitVec.getLsbD_and, BitVec.getLsbD_xor, BitVec.getLsbD_xor, getLsbD7_eq, getLsbD7_eq, getLsbD7_eq, hs,
    toInt_eq, toInt_eq]
  have ha := a.isLt
  have hm := m.isLt
  generalize (p.getLsbD flagC).toNat = c at *
  generalize a.toNat = x at *
  generalize m.toNat = y at *
  by_cases h1 : 128 ≤ x <;> by_cases h2 : 128 ≤ y <;> by_cases h3 : 128 ≤ (x + y + c) % 256 <;>
    simp [h1, h2, h3] <;> omega

/-- ADC's flags (R120). -/
theorem addFlags_adcStatus (p a m : Byte) : AddFlags p a m (adcStatus p a m) := by
  have hs := adcResult_toNat p a m
  refine ⟨?_, ?_, ?_, ?_, ?_⟩
  · rw [adcStatus, setNZ_other _ _ _ (by decide) (by decide), setBit_other _ _ _ _ (by decide) (by decide),
      setBit_self _ _ _ (by decide)]
    rfl
  · rw [adcStatus, setNZ_other _ _ _ (by decide) (by decide), setBit_self _ _ _ (by decide)]
    exact adcOverflow_signed p a m
  · rw [adcStatus, setNZ_N, getLsbD7_eq, hs]
  · rw [adcStatus, setNZ_Z, ← hs]
    congr 1
    rw [← BitVec.toNat_inj]; rfl
  · intro i h1 h2 h3 h4
    rw [adcStatus, setNZ_other _ _ _ h3 h4, setBit_other _ _ _ _ (by decide) h2, setBit_other _ _ _ _ (by decide) h1]

/-- The compare's flags (R125). -/
theorem compareFlags_cmpStatus (p r m : Byte) : CompareFlags p r m (cmpStatus p r m) := by
  refine ⟨?_, ?_, ?_, ?_⟩
  · rw [cmpStatus, setBit_other _ _ _ _ (by decide) (by decide), setBit_other _ _ _ _ (by decide) (by decide),
      setBit_self _ _ _ (by decide)]
    rfl
  · rw [cmpStatus, setBit_other _ _ _ _ (by decide) (by decide), setBit_self _ _ _ (by decide)]
  · rw [cmpStatus, setBit_self _ _ _ (by decide)]
  · intro i h1 h2 h3
    rw [cmpStatus, setBit_other _ _ _ _ (by decide) h3, setBit_other _ _ _ _ (by decide) h2,
      setBit_other _ _ _ _ (by decide) h1]

end Sys2Proof.Machine
end

