-- ==== Sys2Proof/Laws/Frames.lean ====
section
/-! SUPPORT. The vocabulary of the frames (Safety.lean): how `Quiet`, `Stored` and `Pushed` are established from what
the shared operations do. -/

namespace Sys2Proof.Machine

theorem OutsideAs.refl (s : State) : OutsideAs s s := ⟨rfl, rfl, rfl, rfl, rfl, rfl, rfl⟩

/-- An update of CPU registers is outside nothing else. -/
theorem OutsideAs.of_update (r : State) (a x y sp p : Byte) (pc : Word) :
    OutsideAs r { r with a := a, x := x, y := y, sp := sp, p := p, pc := pc } := ⟨rfl, rfl, rfl, rfl, rfl, rfl, rfl⟩

/-- What is outside the CPU's registers settles every byte of memory. -/
theorem OutsideAs.same {r t : State} (h : OutsideAs r t) : SameMemory r t := by
  obtain ⟨_, h1, h2, _, _, h3, _⟩ := h
  exact ⟨State.byteAt_congr _ _ h1 (by rw [h3]), by rw [h2], by rw [h2], by rw [h2], fun f hf => by rw [h3]; exact hf⟩

/-- Bus cycles that leave the memories alone, then register updates only. -/
theorem Quiet.of_outside {s r t : State} (h : SameMemory s r) (ho : OutsideAs r t) : Quiet s r t :=
  ⟨ho, h.trans ho.same⟩

/-- Cycles that leave the memories alone, then one write cycle, then register updates only. -/
theorem Stored.of_outside {s r t : State} {a : Word} {v : Byte} (h : SameMemory s r)
    (ho : OutsideAs (r.write a v) t) : Stored s (r.write a v) t a v := by
  have hs := ho.same
  refine ⟨ho, fun b hb => ?_, fun hr => ?_, fun f hf hr => ?_, fun hp hd => ?_⟩
  · rw [hs.1, State.write_byteAt_other _ _ _ _ hb, h.1]
  · rw [hs.1, State.write_byteAt_ram _ _ _ hr]
  · rw [hs.1, State.write_byteAt_flat _ _ _ f (h.2.2.2.2 f hf) hr, h.1]
  · have hm := State.write_memories r a v hp hd
    exact ⟨hs.2.1.trans (hm.1.trans h.2.1), hs.2.2.1.trans (hm.2.1.trans h.2.2.1),
      hs.2.2.2.1.trans (hm.2.2.trans h.2.2.2.1)⟩

/-- `n` internal cycles change no memory. -/
theorem State.ticks_same : ∀ n (s : State), SameMemory s (State.ticks n s)
  | 0, s => SameMemory.refl s
  | n + 1, s => (State.tick_same s).trans (State.ticks_same n s.tick)

/-- A push stores its byte in its stack cell. -/
theorem State.push_byteAt_self (s : State) (v : Byte) : (s.push v).byteAt (stackAddr s.sp) = some v := by
  rw [State.push_eq]; simp [State.byteAt_eq]

/-- A push changes no memory of the picture unit and not the cartridge's. -/
theorem State.push_devices (s : State) (v : Byte) :
    (s.push v).ppu.vram = s.ppu.vram ∧ (s.push v).ppu.pal = s.ppu.pal ∧ (s.push v).ppu.oam = s.ppu.oam ∧
      ∀ f, s.cart = .flat32 f → (s.push v).cart = .flat32 f := by
  rw [State.push_eq]
  exact (State.tick_same s).2

/-- Two stack cells are different cells where the stack pointers differ. -/
theorem outsideStore_stackAddr (a b : Byte) (h : a ≠ b) : OutsideStore (stackAddr a) (stackAddr b) := by
  rintro ⟨_, hr, _⟩
  have := hr (regionOf_stackAddr b)
  rw [ramIndex_stackAddr, ramIndex_stackAddr] at this
  exact h (BitVec.eq_of_toNat_eq (by omega))

theorem Pushed.nil {s t : State} (h : SameMemory s t) : Pushed s t [] :=
  ⟨fun _ _ h => by simp at h, fun b _ => h.1 b, h.2⟩

/-- One more push, after at most 255 others. -/
theorem Pushed.snoc {s t : State} {vs : List Byte} (h : Pushed s t vs) (v : Byte)
    (hsp : t.sp = s.sp - BitVec.ofNat 8 vs.length) (hl : vs.length < 256) : Pushed s (t.push v) (vs ++ [v]) := by
  have hd := State.push_devices t v
  refine ⟨fun k w hk => ?_, fun b hb => ?_, hd.1.trans h.2.2.1, hd.2.1.trans h.2.2.2.1, hd.2.2.1.trans h.2.2.2.2.1,
    fun f hf => hd.2.2.2 f (h.2.2.2.2.2 f hf)⟩
  · rcases Nat.lt_trichotomy k vs.length with hlt | rfl | hgt
    · rw [List.getElem?_append_left hlt] at hk
      rw [State.push_byteAt_other, h.1 k w hk]
      apply outsideStore_stackAddr
      rw [hsp]
      intro he
      have hk : k < 256 := by omega
      have := congrArg BitVec.toNat he
      rw [BitVec.toNat_sub, BitVec.toNat_sub, BitVec.toNat_ofNat, BitVec.toNat_ofNat, Nat.mod_eq_of_lt hl,
        Nat.mod_eq_of_lt hk] at this
      have := s.sp.isLt
      omega
    · simp at hk
      subst hk
      rw [← hsp, State.push_byteAt_self]
    · rw [List.getElem?_eq_none (by simp; omega)] at hk
      exact absurd hk (by simp)
  · rw [State.push_byteAt_other, h.2.1 b fun k hk => hb k (by simp; omega)]
    rw [hsp]
    exact hb vs.length (by simp)

/-- Register updates after pushes. -/
theorem Pushed.of_outside {s r t : State} {vs : List Byte} (h : Pushed s r vs) (ho : SameMemory r t) :
    Pushed s t vs :=
  ⟨fun k v hk => (ho.1 _).trans (h.1 k v hk), fun b hb => (ho.1 b).trans (h.2.1 b hb), ho.2.1.trans h.2.2.1,
    ho.2.2.1.trans h.2.2.2.1, ho.2.2.2.1.trans h.2.2.2.2.1, fun f hf => ho.2.2.2.2 f (h.2.2.2.2.2 f hf)⟩

/-- Pushes that begin one internal cycle later. -/
theorem Pushed.of_tick {s t : State} {vs : List Byte} (h : Pushed s.tick t vs) : Pushed s t vs := by
  have hs := State.tick_same s
  exact ⟨h.1, fun b hb => (h.2.1 b hb).trans (hs.1 b), h.2.2.1.trans hs.2.1, h.2.2.2.1.trans hs.2.2.1,
    h.2.2.2.2.1.trans hs.2.2.2.1, fun f hf => h.2.2.2.2.2 f (hs.2.2.2.2 f hf)⟩

/-- A word pushed is its two bytes, high byte first (R42). -/
theorem State.pushWord_pushed (s : State) (w : Word) : Pushed s (s.pushWord w) [hiByte w, loByte w] :=
  ((Pushed.nil (SameMemory.refl s)).snoc (hiByte w) (by simp) (by decide)).snoc (loByte w) (by simp) (by simp)

/-! ### Pulls from plain storage -/

theorem State.tick_withSp (s : State) (q : Byte) : ({ s with sp := q } : State).tick = { s.tick with sp := q } := rfl

/-- A byte read from a stack cell is what `pull` returns. -/
theorem State.pull_byte (s : State) (v : Byte) (h : s.byteAt (stackAddr (s.sp + 1)) = some v) : s.pull.1 = v := by
  rw [State.pull_eq]
  simpa [State.byteAt_eq] using h

/-- A pull of a known byte: one cycle, `SP` one more (R14). -/
theorem State.pull_plain (s : State) (v : Byte) (h : s.byteAt (stackAddr (s.sp + 1)) = some v) :
    s.pull = (v, { s.tick with sp := s.sp + 1 }) := by
  have hv := State.pull_byte s v h
  rw [State.pull_eq] at hv ⊢
  simp only at hv
  rw [hv]

/-- A pull of a known word, low byte first: two cycles, `SP` two more (R163). -/
theorem State.pullWord_plain (s : State) (lo hi : Byte) (h1 : s.byteAt (stackAddr (s.sp + 1)) = some lo)
    (h2 : s.byteAt (stackAddr (s.sp + 2)) = some hi) :
    s.pullWord = (wordOf lo hi, { s.tick.tick with sp := s.sp + 2 }) := by
  have hsp : s.sp + 1 + 1 = s.sp + 2 := by bv_omega
  have h3 : s.pull.2.byteAt (stackAddr (s.pull.2.sp + 1)) = some hi := by
    rw [(State.pull_same s).1, State.pull_sp, hsp, h2]
  simp only [State.pullWord, State.pull_plain _ _ h3, State.pull_byte s lo h1]
  rw [State.pull_plain s lo h1, State.tick_withSp]
  simp only [hsp]

end Sys2Proof.Machine
end

