-- ==== Sys2Proof/Laws/Meanings.lean ====
section
/-! SUPPORT. What an instruction can do, said once: the shared operation each of the 256 meanings is, as data. A claim
about every instruction is proved by the cases of `Act`, not by the 256 of `Instr`. -/

namespace Sys2Proof.Machine

/-- The four shifts (R150 to R153). -/
inductive ShiftKind where
  | asl
  | lsr
  | rol
  | ror

/-- The byte function of a shift. -/
def ShiftKind.fn : ShiftKind → Byte → Byte → Modified
  | .asl => aslF
  | .lsr => lsrF
  | .rol => rolF
  | .ror => rorF

/-- The flags the flag instructions write (R184 to R190). -/
inductive FlagKind where
  | c
  | i
  | d
  | v

/-- The bit of a flag. -/
def FlagKind.bit : FlagKind → Nat
  | .c => flagC
  | .i => flagI
  | .d => flagD
  | .v => flagV

/-- The shared operations the meanings are made of. -/
inductive Act where
  | loadA (o : Operand)
  | loadX (o : Operand)
  | loadY (o : Operand)
  | storeA (o : Operand)
  | storeX (o : Operand)
  | storeY (o : Operand)
  | transferAX
  | transferAY
  | transferXA
  | transferYA
  | transferSX
  | transferXS
  | addMem (o : Operand)
  | subMem (o : Operand)
  | andMem (o : Operand)
  | orMem (o : Operand)
  | eorMem (o : Operand)
  | compareA (o : Operand)
  | compareX (o : Operand)
  | compareY (o : Operand)
  | bitTest (o : Operand)
  | incMem (o : Operand)
  | decMem (o : Operand)
  | incX
  | incY
  | decX
  | decY
  | shiftMem (k : ShiftKind) (o : Operand)
  | shiftA (k : ShiftKind)
  | jumpTo (w : Word)
  | jumpIndirect (w : Word)
  | call (w : Word)
  | returnSub
  | branch (f : Nat) (v : Bool) (b : Byte)
  | pushA
  | pushP
  | pullA
  | pullP
  | setFlag (f : FlagKind) (v : Bool)
  | noOp
  | softwareTrap
  | returnTrap
  | loadAX (o : Operand)
  | storeAX (o : Operand)
  | decCompare (o : Operand)
  | incSub (o : Operand)
  | shiftOr (o : Operand)
  | rotateAnd (o : Operand)
  | shiftEor (o : Operand)
  | rotateAdd (o : Operand)
  | readDiscard (o : Operand)
  | unknownOpcode (op : Byte)

/-- The state after the operation. -/
def Act.run (c : Act) (s : State) : State :=
  match c with
  | .loadA o => Sys2Proof.Machine.loadA o s
  | .loadX o => Sys2Proof.Machine.loadX o s
  | .loadY o => Sys2Proof.Machine.loadY o s
  | .storeA o => Sys2Proof.Machine.storeA o s
  | .storeX o => Sys2Proof.Machine.storeX o s
  | .storeY o => Sys2Proof.Machine.storeY o s
  | .transferAX => Sys2Proof.Machine.transferAX s
  | .transferAY => Sys2Proof.Machine.transferAY s
  | .transferXA => Sys2Proof.Machine.transferXA s
  | .transferYA => Sys2Proof.Machine.transferYA s
  | .transferSX => Sys2Proof.Machine.transferSX s
  | .transferXS => Sys2Proof.Machine.transferXS s
  | .addMem o => Sys2Proof.Machine.addMem o s
  | .subMem o => Sys2Proof.Machine.subMem o s
  | .andMem o => Sys2Proof.Machine.andMem o s
  | .orMem o => Sys2Proof.Machine.orMem o s
  | .eorMem o => Sys2Proof.Machine.eorMem o s
  | .compareA o => Sys2Proof.Machine.compareA o s
  | .compareX o => Sys2Proof.Machine.compareX o s
  | .compareY o => Sys2Proof.Machine.compareY o s
  | .bitTest o => Sys2Proof.Machine.bitTest o s
  | .incMem o => Sys2Proof.Machine.incMem o s
  | .decMem o => Sys2Proof.Machine.decMem o s
  | .incX => Sys2Proof.Machine.incX s
  | .incY => Sys2Proof.Machine.incY s
  | .decX => Sys2Proof.Machine.decX s
  | .decY => Sys2Proof.Machine.decY s
  | .shiftMem k o => Sys2Proof.Machine.shiftMem k.fn o s
  | .shiftA k => Sys2Proof.Machine.shiftA k.fn s
  | .jumpTo w => Sys2Proof.Machine.jumpTo w s
  | .jumpIndirect w => Sys2Proof.Machine.jumpIndirect w s
  | .call w => Sys2Proof.Machine.call w s
  | .returnSub => Sys2Proof.Machine.returnSub s
  | .branch f v b => Sys2Proof.Machine.branch f v b s
  | .pushA => Sys2Proof.Machine.pushA s
  | .pushP => Sys2Proof.Machine.pushP s
  | .pullA => Sys2Proof.Machine.pullA s
  | .pullP => Sys2Proof.Machine.pullP s
  | .setFlag f v => Sys2Proof.Machine.setFlag f.bit v s
  | .noOp => Sys2Proof.Machine.noOp s
  | .softwareTrap => Sys2Proof.Machine.softwareTrap s
  | .returnTrap => Sys2Proof.Machine.returnTrap s
  | .loadAX o => Sys2Proof.Machine.loadAX o s
  | .storeAX o => Sys2Proof.Machine.storeAX o s
  | .decCompare o => Sys2Proof.Machine.decCompare o s
  | .incSub o => Sys2Proof.Machine.incSub o s
  | .shiftOr o => Sys2Proof.Machine.shiftOr o s
  | .rotateAnd o => Sys2Proof.Machine.rotateAnd o s
  | .shiftEor o => Sys2Proof.Machine.shiftEor o s
  | .rotateAdd o => Sys2Proof.Machine.rotateAdd o s
  | .readDiscard o => Sys2Proof.Machine.readDiscard o s
  | .unknownOpcode op => Sys2Proof.Machine.unknownOpcode op s

/-- The operation an instruction is. -/
def actOf (i : Instr) : Act :=
  match i with
  | .ldaIzx b => .loadA (.izx b)
  | .ldaZp b => .loadA (.zp b)
  | .ldaImm b => .loadA (.imm b)
  | .ldaAbs w => .loadA (.abs w)
  | .ldaIzy b => .loadA (.izy b)
  | .ldaZpx b => .loadA (.zpx b)
  | .ldaAby w => .loadA (.aby w)
  | .ldaAbx w => .loadA (.abx w)
  | .ldxImm b => .loadX (.imm b)
  | .ldxZp b => .loadX (.zp b)
  | .ldxAbs w => .loadX (.abs w)
  | .ldxZpy b => .loadX (.zpy b)
  | .ldxAby w => .loadX (.aby w)
  | .ldyImm b => .loadY (.imm b)
  | .ldyZp b => .loadY (.zp b)
  | .ldyAbs w => .loadY (.abs w)
  | .ldyZpx b => .loadY (.zpx b)
  | .ldyAbx w => .loadY (.abx w)
  | .staIzx b => .storeA (.izx b)
  | .staZp b => .storeA (.zp b)
  | .staAbs w => .storeA (.abs w)
  | .staIzy b => .storeA (.izy b)
  | .staZpx b => .storeA (.zpx b)
  | .staAby w => .storeA (.aby w)
  | .staAbx w => .storeA (.abx w)
  | .stxZp b => .storeX (.zp b)
  | .stxAbs w => .storeX (.abs w)
  | .stxZpy b => .storeX (.zpy b)
  | .styZp b => .storeY (.zp b)
  | .styAbs w => .storeY (.abs w)
  | .styZpx b => .storeY (.zpx b)
  | .tax => .transferAX
  | .tay => .transferAY
  | .txa => .transferXA
  | .tya => .transferYA
  | .tsx => .transferSX
  | .txs => .transferXS
  | .adcIzx b => .addMem (.izx b)
  | .adcZp b => .addMem (.zp b)
  | .adcImm b => .addMem (.imm b)
  | .adcAbs w => .addMem (.abs w)
  | .adcIzy b => .addMem (.izy b)
  | .adcZpx b => .addMem (.zpx b)
  | .adcAby w => .addMem (.aby w)
  | .adcAbx w => .addMem (.abx w)
  | .sbcIzx b => .subMem (.izx b)
  | .sbcZp b => .subMem (.zp b)
  | .sbcImm b => .subMem (.imm b)
  | .sbcAbs w => .subMem (.abs w)
  | .sbcIzy b => .subMem (.izy b)
  | .sbcZpx b => .subMem (.zpx b)
  | .sbcAby w => .subMem (.aby w)
  | .sbcAbx w => .subMem (.abx w)
  | .andIzx b => .andMem (.izx b)
  | .andZp b => .andMem (.zp b)
  | .andImm b => .andMem (.imm b)
  | .andAbs w => .andMem (.abs w)
  | .andIzy b => .andMem (.izy b)
  | .andZpx b => .andMem (.zpx b)
  | .andAby w => .andMem (.aby w)
  | .andAbx w => .andMem (.abx w)
  | .oraIzx b => .orMem (.izx b)
  | .oraZp b => .orMem (.zp b)
  | .oraImm b => .orMem (.imm b)
  | .oraAbs w => .orMem (.abs w)
  | .oraIzy b => .orMem (.izy b)
  | .oraZpx b => .orMem (.zpx b)
  | .oraAby w => .orMem (.aby w)
  | .oraAbx w => .orMem (.abx w)
  | .eorIzx b => .eorMem (.izx b)
  | .eorZp b => .eorMem (.zp b)
  | .eorImm b => .eorMem (.imm b)
  | .eorAbs w => .eorMem (.abs w)
  | .eorIzy b => .eorMem (.izy b)
  | .eorZpx b => .eorMem (.zpx b)
  | .eorAby w => .eorMem (.aby w)
  | .eorAbx w => .eorMem (.abx w)
  | .cmpIzx b => .compareA (.izx b)
  | .cmpZp b => .compareA (.zp b)
  | .cmpImm b => .compareA (.imm b)
  | .cmpAbs w => .compareA (.abs w)
  | .cmpIzy b => .compareA (.izy b)
  | .cmpZpx b => .compareA (.zpx b)
  | .cmpAby w => .compareA (.aby w)
  | .cmpAbx w => .compareA (.abx w)
  | .cpxImm b => .compareX (.imm b)
  | .cpxZp b => .compareX (.zp b)
  | .cpxAbs w => .compareX (.abs w)
  | .cpyImm b => .compareY (.imm b)
  | .cpyZp b => .compareY (.zp b)
  | .cpyAbs w => .compareY (.abs w)
  | .bitZp b => .bitTest (.zp b)
  | .bitAbs w => .bitTest (.abs w)
  | .incZp b => .incMem (.zp b)
  | .incAbs w => .incMem (.abs w)
  | .incZpx b => .incMem (.zpx b)
  | .incAbx w => .incMem (.abx w)
  | .decZp b => .decMem (.zp b)
  | .decAbs w => .decMem (.abs w)
  | .decZpx b => .decMem (.zpx b)
  | .decAbx w => .decMem (.abx w)
  | .inx => .incX
  | .iny => .incY
  | .dex => .decX
  | .dey => .decY
  | .aslZp b => .shiftMem .asl (.zp b)
  | .aslAcc => .shiftA .asl
  | .aslAbs w => .shiftMem .asl (.abs w)
  | .aslZpx b => .shiftMem .asl (.zpx b)
  | .aslAbx w => .shiftMem .asl (.abx w)
  | .lsrZp b => .shiftMem .lsr (.zp b)
  | .lsrAcc => .shiftA .lsr
  | .lsrAbs w => .shiftMem .lsr (.abs w)
  | .lsrZpx b => .shiftMem .lsr (.zpx b)
  | .lsrAbx w => .shiftMem .lsr (.abx w)
  | .rolZp b => .shiftMem .rol (.zp b)
  | .rolAcc => .shiftA .rol
  | .rolAbs w => .shiftMem .rol (.abs w)
  | .rolZpx b => .shiftMem .rol (.zpx b)
  | .rolAbx w => .shiftMem .rol (.abx w)
  | .rorZp b => .shiftMem .ror (.zp b)
  | .rorAcc => .shiftA .ror
  | .rorAbs w => .shiftMem .ror (.abs w)
  | .rorZpx b => .shiftMem .ror (.zpx b)
  | .rorAbx w => .shiftMem .ror (.abx w)
  | .jmpAbs w => .jumpTo w
  | .jmpInd w => .jumpIndirect w
  | .jsr w => .call w
  | .rts => .returnSub
  | .bcc b => .branch flagC false b
  | .bcs b => .branch flagC true b
  | .beq b => .branch flagZ true b
  | .bne b => .branch flagZ false b
  | .bmi b => .branch flagN true b
  | .bpl b => .branch flagN false b
  | .bvc b => .branch flagV false b
  | .bvs b => .branch flagV true b
  | .pha => .pushA
  | .php => .pushP
  | .pla => .pullA
  | .plp => .pullP
  | .clc => .setFlag .c false
  | .sec => .setFlag .c true
  | .cli => .setFlag .i false
  | .sei => .setFlag .i true
  | .clv => .setFlag .v false
  | .cld => .setFlag .d false
  | .sed => .setFlag .d true
  | .nop => .noOp
  | .brk => .softwareTrap
  | .rti => .returnTrap
  | .laxIzx b => .loadAX (.izx b)
  | .laxZp b => .loadAX (.zp b)
  | .laxAbs w => .loadAX (.abs w)
  | .laxIzy b => .loadAX (.izy b)
  | .laxZpy b => .loadAX (.zpy b)
  | .laxAby w => .loadAX (.aby w)
  | .saxIzx b => .storeAX (.izx b)
  | .saxZp b => .storeAX (.zp b)
  | .saxAbs w => .storeAX (.abs w)
  | .saxZpy b => .storeAX (.zpy b)
  | .dcpIzx b => .decCompare (.izx b)
  | .dcpZp b => .decCompare (.zp b)
  | .dcpAbs w => .decCompare (.abs w)
  | .dcpIzy b => .decCompare (.izy b)
  | .dcpZpx b => .decCompare (.zpx b)
  | .dcpAby w => .decCompare (.aby w)
  | .dcpAbx w => .decCompare (.abx w)
  | .isbIzx b => .incSub (.izx b)
  | .isbZp b => .incSub (.zp b)
  | .isbAbs w => .incSub (.abs w)
  | .isbIzy b => .incSub (.izy b)
  | .isbZpx b => .incSub (.zpx b)
  | .isbAby w => .incSub (.aby w)
  | .isbAbx w => .incSub (.abx w)
  | .sloIzx b => .shiftOr (.izx b)
  | .sloZp b => .shiftOr (.zp b)
  | .sloAbs w => .shiftOr (.abs w)
  | .sloIzy b => .shiftOr (.izy b)
  | .sloZpx b => .shiftOr (.zpx b)
  | .sloAby w => .shiftOr (.aby w)
  | .sloAbx w => .shiftOr (.abx w)
  | .rlaIzx b => .rotateAnd (.izx b)
  | .rlaZp b => .rotateAnd (.zp b)
  | .rlaAbs w => .rotateAnd (.abs w)
  | .rlaIzy b => .rotateAnd (.izy b)
  | .rlaZpx b => .rotateAnd (.zpx b)
  | .rlaAby w => .rotateAnd (.aby w)
  | .rlaAbx w => .rotateAnd (.abx w)
  | .sreIzx b => .shiftEor (.izx b)
  | .sreZp b => .shiftEor (.zp b)
  | .sreAbs w => .shiftEor (.abs w)
  | .sreIzy b => .shiftEor (.izy b)
  | .sreZpx b => .shiftEor (.zpx b)
  | .sreAby w => .shiftEor (.aby w)
  | .sreAbx w => .shiftEor (.abx w)
  | .rraIzx b => .rotateAdd (.izx b)
  | .rraZp b => .rotateAdd (.zp b)
  | .rraAbs w => .rotateAdd (.abs w)
  | .rraIzy b => .rotateAdd (.izy b)
  | .rraZpx b => .rotateAdd (.zpx b)
  | .rraAby w => .rotateAdd (.aby w)
  | .rraAbx w => .rotateAdd (.abx w)
  | .nopZp04 b => .readDiscard (.zp b)
  | .nopAbs0C w => .readDiscard (.abs w)
  | .nopZpx14 b => .readDiscard (.zpx b)
  | .nop1A => .noOp
  | .nopAbx1C w => .readDiscard (.abx w)
  | .nopZpx34 b => .readDiscard (.zpx b)
  | .nop3A => .noOp
  | .nopAbx3C w => .readDiscard (.abx w)
  | .nopZp44 b => .readDiscard (.zp b)
  | .nopZpx54 b => .readDiscard (.zpx b)
  | .nop5A => .noOp
  | .nopAbx5C w => .readDiscard (.abx w)
  | .nopZp64 b => .readDiscard (.zp b)
  | .nopZpx74 b => .readDiscard (.zpx b)
  | .nop7A => .noOp
  | .nopAbx7C w => .readDiscard (.abx w)
  | .nopImm80 b => .readDiscard (.imm b)
  | .nopZpxD4 b => .readDiscard (.zpx b)
  | .nopDA => .noOp
  | .nopAbxDC w => .readDiscard (.abx w)
  | .nopZpxF4 b => .readDiscard (.zpx b)
  | .nopFA => .noOp
  | .nopAbxFC w => .readDiscard (.abx w)
  | .sbcImmEB b => .subMem (.imm b)
  | .unk02 => .unknownOpcode 0x02
  | .unk0B => .unknownOpcode 0x0B
  | .unk12 => .unknownOpcode 0x12
  | .unk22 => .unknownOpcode 0x22
  | .unk2B => .unknownOpcode 0x2B
  | .unk32 => .unknownOpcode 0x32
  | .unk42 => .unknownOpcode 0x42
  | .unk4B => .unknownOpcode 0x4B
  | .unk52 => .unknownOpcode 0x52
  | .unk62 => .unknownOpcode 0x62
  | .unk6B => .unknownOpcode 0x6B
  | .unk72 => .unknownOpcode 0x72
  | .unk82 => .unknownOpcode 0x82
  | .unk89 => .unknownOpcode 0x89
  | .unk8B => .unknownOpcode 0x8B
  | .unk92 => .unknownOpcode 0x92
  | .unk93 => .unknownOpcode 0x93
  | .unk9B => .unknownOpcode 0x9B
  | .unk9C => .unknownOpcode 0x9C
  | .unk9E => .unknownOpcode 0x9E
  | .unk9F => .unknownOpcode 0x9F
  | .unkAB => .unknownOpcode 0xAB
  | .unkB2 => .unknownOpcode 0xB2
  | .unkBB => .unknownOpcode 0xBB
  | .unkC2 => .unknownOpcode 0xC2
  | .unkCB => .unknownOpcode 0xCB
  | .unkD2 => .unknownOpcode 0xD2
  | .unkE2 => .unknownOpcode 0xE2
  | .unkF2 => .unknownOpcode 0xF2

/-- Every instruction completes as its operation (R221). -/
theorem exec_eq (i : Instr) (s : State) : exec i s = .next ((actOf i).run s) := by
  cases i <;> rfl

end Sys2Proof.Machine
end

