-- ==== Sys2Proof/Laws/PerInstr.lean ====
section
/-! SUPPORT. One lemma per constructor of Instr about the instruction as syntax: the decoder's entry at the opcode
the encoder gives the instruction, filled with the instruction's own operand bytes, is that instruction (R60, R76).
Decoder and encoder were written from two different tables of the spec; these lemmas are where they meet. -/

namespace Sys2Proof.Laws.Encoding

open Sys2Proof

/-- An opcode's entry filled with operand bytes; nothing where they are not the bytes its format has. -/
def fill : Shape → OperandBytes → Option Instr
  | .one i, .none => some i
  | .two mk, .byte b => some (mk b)
  | .three mk, .word w => some (mk w)
  | _, _ => none

/-- The entry at the instruction's opcode, filled with its operand, is the instruction. -/
def Statement (i : Instr) : Prop := fill (shapeOf i.opcode) i.operandBytes = some i

/-- The four small facts a constructor's lemma is made of. -/
theorem of_parts {i : Instr} (op : Byte) (sh : Shape) (o : OperandBytes) (h1 : i.opcode = op) (h2 : shapeOf op = sh)
    (h3 : i.operandBytes = o) (h4 : fill sh o = some i) : Statement i := by
  unfold Statement; rw [h1, h2, h3, h4]

theorem brk : Statement .brk :=
  of_parts 0x00 (.one .brk) .none rfl rfl rfl rfl
theorem oraIzx (b : Byte) : Statement (.oraIzx b) :=
  of_parts 0x01 (.two .oraIzx) (.byte b) rfl rfl rfl rfl
theorem unk02 : Statement .unk02 :=
  of_parts 0x02 (.one .unk02) .none rfl rfl rfl rfl
theorem sloIzx (b : Byte) : Statement (.sloIzx b) :=
  of_parts 0x03 (.two .sloIzx) (.byte b) rfl rfl rfl rfl
theorem nopZp04 (b : Byte) : Statement (.nopZp04 b) :=
  of_parts 0x04 (.two .nopZp04) (.byte b) rfl rfl rfl rfl
theorem oraZp (b : Byte) : Statement (.oraZp b) :=
  of_parts 0x05 (.two .oraZp) (.byte b) rfl rfl rfl rfl
theorem aslZp (b : Byte) : Statement (.aslZp b) :=
  of_parts 0x06 (.two .aslZp) (.byte b) rfl rfl rfl rfl
theorem sloZp (b : Byte) : Statement (.sloZp b) :=
  of_parts 0x07 (.two .sloZp) (.byte b) rfl rfl rfl rfl
theorem php : Statement .php :=
  of_parts 0x08 (.one .php) .none rfl rfl rfl rfl
theorem oraImm (b : Byte) : Statement (.oraImm b) :=
  of_parts 0x09 (.two .oraImm) (.byte b) rfl rfl rfl rfl
theorem aslAcc : Statement .aslAcc :=
  of_parts 0x0A (.one .aslAcc) .none rfl rfl rfl rfl
theorem unk0B : Statement .unk0B :=
  of_parts 0x0B (.one .unk0B) .none rfl rfl rfl rfl
theorem nopAbs0C (w : Word) : Statement (.nopAbs0C w) :=
  of_parts 0x0C (.three .nopAbs0C) (.word w) rfl rfl rfl rfl
theorem oraAbs (w : Word) : Statement (.oraAbs w) :=
  of_parts 0x0D (.three .oraAbs) (.word w) rfl rfl rfl rfl
theorem aslAbs (w : Word) : Statement (.aslAbs w) :=
  of_parts 0x0E (.three .aslAbs) (.word w) rfl rfl rfl rfl
theorem sloAbs (w : Word) : Statement (.sloAbs w) :=
  of_parts 0x0F (.three .sloAbs) (.word w) rfl rfl rfl rfl
theorem bpl (b : Byte) : Statement (.bpl b) :=
  of_parts 0x10 (.two .bpl) (.byte b) rfl rfl rfl rfl
theorem oraIzy (b : Byte) : Statement (.oraIzy b) :=
  of_parts 0x11 (.two .oraIzy) (.byte b) rfl rfl rfl rfl
theorem unk12 : Statement .unk12 :=
  of_parts 0x12 (.one .unk12) .none rfl rfl rfl rfl
theorem sloIzy (b : Byte) : Statement (.sloIzy b) :=
  of_parts 0x13 (.two .sloIzy) (.byte b) rfl rfl rfl rfl
theorem nopZpx14 (b : Byte) : Statement (.nopZpx14 b) :=
  of_parts 0x14 (.two .nopZpx14) (.byte b) rfl rfl rfl rfl
theorem oraZpx (b : Byte) : Statement (.oraZpx b) :=
  of_parts 0x15 (.two .oraZpx) (.byte b) rfl rfl rfl rfl
theorem aslZpx (b : Byte) : Statement (.aslZpx b) :=
  of_parts 0x16 (.two .aslZpx) (.byte b) rfl rfl rfl rfl
theorem sloZpx (b : Byte) : Statement (.sloZpx b) :=
  of_parts 0x17 (.two .sloZpx) (.byte b) rfl rfl rfl rfl
theorem clc : Statement .clc :=
  of_parts 0x18 (.one .clc) .none rfl rfl rfl rfl
theorem oraAby (w : Word) : Statement (.oraAby w) :=
  of_parts 0x19 (.three .oraAby) (.word w) rfl rfl rfl rfl
theorem nop1A : Statement .nop1A :=
  of_parts 0x1A (.one .nop1A) .none rfl rfl rfl rfl
theorem sloAby (w : Word) : Statement (.sloAby w) :=
  of_parts 0x1B (.three .sloAby) (.word w) rfl rfl rfl rfl
theorem nopAbx1C (w : Word) : Statement (.nopAbx1C w) :=
  of_parts 0x1C (.three .nopAbx1C) (.word w) rfl rfl rfl rfl
theorem oraAbx (w : Word) : Statement (.oraAbx w) :=
  of_parts 0x1D (.three .oraAbx) (.word w) rfl rfl rfl rfl
theorem aslAbx (w : Word) : Statement (.aslAbx w) :=
  of_parts 0x1E (.three .aslAbx) (.word w) rfl rfl rfl rfl
theorem sloAbx (w : Word) : Statement (.sloAbx w) :=
  of_parts 0x1F (.three .sloAbx) (.word w) rfl rfl rfl rfl
theorem jsr (w : Word) : Statement (.jsr w) :=
  of_parts 0x20 (.three .jsr) (.word w) rfl rfl rfl rfl
theorem andIzx (b : Byte) : Statement (.andIzx b) :=
  of_parts 0x21 (.two .andIzx) (.byte b) rfl rfl rfl rfl
theorem unk22 : Statement .unk22 :=
  of_parts 0x22 (.one .unk22) .none rfl rfl rfl rfl
theorem rlaIzx (b : Byte) : Statement (.rlaIzx b) :=
  of_parts 0x23 (.two .rlaIzx) (.byte b) rfl rfl rfl rfl
theorem bitZp (b : Byte) : Statement (.bitZp b) :=
  of_parts 0x24 (.two .bitZp) (.byte b) rfl rfl rfl rfl
theorem andZp (b : Byte) : Statement (.andZp b) :=
  of_parts 0x25 (.two .andZp) (.byte b) rfl rfl rfl rfl
theorem rolZp (b : Byte) : Statement (.rolZp b) :=
  of_parts 0x26 (.two .rolZp) (.byte b) rfl rfl rfl rfl
theorem rlaZp (b : Byte) : Statement (.rlaZp b) :=
  of_parts 0x27 (.two .rlaZp) (.byte b) rfl rfl rfl rfl
theorem plp : Statement .plp :=
  of_parts 0x28 (.one .plp) .none rfl rfl rfl rfl
theorem andImm (b : Byte) : Statement (.andImm b) :=
  of_parts 0x29 (.two .andImm) (.byte b) rfl rfl rfl rfl
theorem rolAcc : Statement .rolAcc :=
  of_parts 0x2A (.one .rolAcc) .none rfl rfl rfl rfl
theorem unk2B : Statement .unk2B :=
  of_parts 0x2B (.one .unk2B) .none rfl rfl rfl rfl
theorem bitAbs (w : Word) : Statement (.bitAbs w) :=
  of_parts 0x2C (.three .bitAbs) (.word w) rfl rfl rfl rfl
theorem andAbs (w : Word) : Statement (.andAbs w) :=
  of_parts 0x2D (.three .andAbs) (.word w) rfl rfl rfl rfl
theorem rolAbs (w : Word) : Statement (.rolAbs w) :=
  of_parts 0x2E (.three .rolAbs) (.word w) rfl rfl rfl rfl
theorem rlaAbs (w : Word) : Statement (.rlaAbs w) :=
  of_parts 0x2F (.three .rlaAbs) (.word w) rfl rfl rfl rfl
theorem bmi (b : Byte) : Statement (.bmi b) :=
  of_parts 0x30 (.two .bmi) (.byte b) rfl rfl rfl rfl
theorem andIzy (b : Byte) : Statement (.andIzy b) :=
  of_parts 0x31 (.two .andIzy) (.byte b) rfl rfl rfl rfl
theorem unk32 : Statement .unk32 :=
  of_parts 0x32 (.one .unk32) .none rfl rfl rfl rfl
theorem rlaIzy (b : Byte) : Statement (.rlaIzy b) :=
  of_parts 0x33 (.two .rlaIzy) (.byte b) rfl rfl rfl rfl
theorem nopZpx34 (b : Byte) : Statement (.nopZpx34 b) :=
  of_parts 0x34 (.two .nopZpx34) (.byte b) rfl rfl rfl rfl
theorem andZpx (b : Byte) : Statement (.andZpx b) :=
  of_parts 0x35 (.two .andZpx) (.byte b) rfl rfl rfl rfl
theorem rolZpx (b : Byte) : Statement (.rolZpx b) :=
  of_parts 0x36 (.two .rolZpx) (.byte b) rfl rfl rfl rfl
theorem rlaZpx (b : Byte) : Statement (.rlaZpx b) :=
  of_parts 0x37 (.two .rlaZpx) (.byte b) rfl rfl rfl rfl
theorem sec : Statement .sec :=
  of_parts 0x38 (.one .sec) .none rfl rfl rfl rfl
theorem andAby (w : Word) : Statement (.andAby w) :=
  of_parts 0x39 (.three .andAby) (.word w) rfl rfl rfl rfl
theorem nop3A : Statement .nop3A :=
  of_parts 0x3A (.one .nop3A) .none rfl rfl rfl rfl
theorem rlaAby (w : Word) : Statement (.rlaAby w) :=
  of_parts 0x3B (.three .rlaAby) (.word w) rfl rfl rfl rfl
theorem nopAbx3C (w : Word) : Statement (.nopAbx3C w) :=
  of_parts 0x3C (.three .nopAbx3C) (.word w) rfl rfl rfl rfl
theorem andAbx (w : Word) : Statement (.andAbx w) :=
  of_parts 0x3D (.three .andAbx) (.word w) rfl rfl rfl rfl
theorem rolAbx (w : Word) : Statement (.rolAbx w) :=
  of_parts 0x3E (.three .rolAbx) (.word w) rfl rfl rfl rfl
theorem rlaAbx (w : Word) : Statement (.rlaAbx w) :=
  of_parts 0x3F (.three .rlaAbx) (.word w) rfl rfl rfl rfl
theorem rti : Statement .rti :=
  of_parts 0x40 (.one .rti) .none rfl rfl rfl rfl
theorem eorIzx (b : Byte) : Statement (.eorIzx b) :=
  of_parts 0x41 (.two .eorIzx) (.byte b) rfl rfl rfl rfl
theorem unk42 : Statement .unk42 :=
  of_parts 0x42 (.one .unk42) .none rfl rfl rfl rfl
theorem sreIzx (b : Byte) : Statement (.sreIzx b) :=
  of_parts 0x43 (.two .sreIzx) (.byte b) rfl rfl rfl rfl
theorem nopZp44 (b : Byte) : Statement (.nopZp44 b) :=
  of_parts 0x44 (.two .nopZp44) (.byte b) rfl rfl rfl rfl
theorem eorZp (b : Byte) : Statement (.eorZp b) :=
  of_parts 0x45 (.two .eorZp) (.byte b) rfl rfl rfl rfl
theorem lsrZp (b : Byte) : Statement (.lsrZp b) :=
  of_parts 0x46 (.two .lsrZp) (.byte b) rfl rfl rfl rfl
theorem sreZp (b : Byte) : Statement (.sreZp b) :=
  of_parts 0x47 (.two .sreZp) (.byte b) rfl rfl rfl rfl
theorem pha : Statement .pha :=
  of_parts 0x48 (.one .pha) .none rfl rfl rfl rfl
theorem eorImm (b : Byte) : Statement (.eorImm b) :=
  of_parts 0x49 (.two .eorImm) (.byte b) rfl rfl rfl rfl
theorem lsrAcc : Statement .lsrAcc :=
  of_parts 0x4A (.one .lsrAcc) .none rfl rfl rfl rfl
theorem unk4B : Statement .unk4B :=
  of_parts 0x4B (.one .unk4B) .none rfl rfl rfl rfl
theorem jmpAbs (w : Word) : Statement (.jmpAbs w) :=
  of_parts 0x4C (.three .jmpAbs) (.word w) rfl rfl rfl rfl
theorem eorAbs (w : Word) : Statement (.eorAbs w) :=
  of_parts 0x4D (.three .eorAbs) (.word w) rfl rfl rfl rfl
theorem lsrAbs (w : Word) : Statement (.lsrAbs w) :=
  of_parts 0x4E (.three .lsrAbs) (.word w) rfl rfl rfl rfl
theorem sreAbs (w : Word) : Statement (.sreAbs w) :=
  of_parts 0x4F (.three .sreAbs) (.word w) rfl rfl rfl rfl
theorem bvc (b : Byte) : Statement (.bvc b) :=
  of_parts 0x50 (.two .bvc) (.byte b) rfl rfl rfl rfl
theorem eorIzy (b : Byte) : Statement (.eorIzy b) :=
  of_parts 0x51 (.two .eorIzy) (.byte b) rfl rfl rfl rfl
theorem unk52 : Statement .unk52 :=
  of_parts 0x52 (.one .unk52) .none rfl rfl rfl rfl
theorem sreIzy (b : Byte) : Statement (.sreIzy b) :=
  of_parts 0x53 (.two .sreIzy) (.byte b) rfl rfl rfl rfl
theorem nopZpx54 (b : Byte) : Statement (.nopZpx54 b) :=
  of_parts 0x54 (.two .nopZpx54) (.byte b) rfl rfl rfl rfl
theorem eorZpx (b : Byte) : Statement (.eorZpx b) :=
  of_parts 0x55 (.two .eorZpx) (.byte b) rfl rfl rfl rfl
theorem lsrZpx (b : Byte) : Statement (.lsrZpx b) :=
  of_parts 0x56 (.two .lsrZpx) (.byte b) rfl rfl rfl rfl
theorem sreZpx (b : Byte) : Statement (.sreZpx b) :=
  of_parts 0x57 (.two .sreZpx) (.byte b) rfl rfl rfl rfl
theorem cli : Statement .cli :=
  of_parts 0x58 (.one .cli) .none rfl rfl rfl rfl
theorem eorAby (w : Word) : Statement (.eorAby w) :=
  of_parts 0x59 (.three .eorAby) (.word w) rfl rfl rfl rfl
theorem nop5A : Statement .nop5A :=
  of_parts 0x5A (.one .nop5A) .none rfl rfl rfl rfl
theorem sreAby (w : Word) : Statement (.sreAby w) :=
  of_parts 0x5B (.three .sreAby) (.word w) rfl rfl rfl rfl
theorem nopAbx5C (w : Word) : Statement (.nopAbx5C w) :=
  of_parts 0x5C (.three .nopAbx5C) (.word w) rfl rfl rfl rfl
theorem eorAbx (w : Word) : Statement (.eorAbx w) :=
  of_parts 0x5D (.three .eorAbx) (.word w) rfl rfl rfl rfl
theorem lsrAbx (w : Word) : Statement (.lsrAbx w) :=
  of_parts 0x5E (.three .lsrAbx) (.word w) rfl rfl rfl rfl
theorem sreAbx (w : Word) : Statement (.sreAbx w) :=
  of_parts 0x5F (.three .sreAbx) (.word w) rfl rfl rfl rfl
theorem rts : Statement .rts :=
  of_parts 0x60 (.one .rts) .none rfl rfl rfl rfl
theorem adcIzx (b : Byte) : Statement (.adcIzx b) :=
  of_parts 0x61 (.two .adcIzx) (.byte b) rfl rfl rfl rfl
theorem unk62 : Statement .unk62 :=
  of_parts 0x62 (.one .unk62) .none rfl rfl rfl rfl
theorem rraIzx (b : Byte) : Statement (.rraIzx b) :=
  of_parts 0x63 (.two .rraIzx) (.byte b) rfl rfl rfl rfl
theorem nopZp64 (b : Byte) : Statement (.nopZp64 b) :=
  of_parts 0x64 (.two .nopZp64) (.byte b) rfl rfl rfl rfl
theorem adcZp (b : Byte) : Statement (.adcZp b) :=
  of_parts 0x65 (.two .adcZp) (.byte b) rfl rfl rfl rfl
theorem rorZp (b : Byte) : Statement (.rorZp b) :=
  of_parts 0x66 (.two .rorZp) (.byte b) rfl rfl rfl rfl
theorem rraZp (b : Byte) : Statement (.rraZp b) :=
  of_parts 0x67 (.two .rraZp) (.byte b) rfl rfl rfl rfl
theorem pla : Statement .pla :=
  of_parts 0x68 (.one .pla) .none rfl rfl rfl rfl
theorem adcImm (b : Byte) : Statement (.adcImm b) :=
  of_parts 0x69 (.two .adcImm) (.byte b) rfl rfl rfl rfl
theorem rorAcc : Statement .rorAcc :=
  of_parts 0x6A (.one .rorAcc) .none rfl rfl rfl rfl
theorem unk6B : Statement .unk6B :=
  of_parts 0x6B (.one .unk6B) .none rfl rfl rfl rfl
theorem jmpInd (w : Word) : Statement (.jmpInd w) :=
  of_parts 0x6C (.three .jmpInd) (.word w) rfl rfl rfl rfl
theorem adcAbs (w : Word) : Statement (.adcAbs w) :=
  of_parts 0x6D (.three .adcAbs) (.word w) rfl rfl rfl rfl
theorem rorAbs (w : Word) : Statement (.rorAbs w) :=
  of_parts 0x6E (.three .rorAbs) (.word w) rfl rfl rfl rfl
theorem rraAbs (w : Word) : Statement (.rraAbs w) :=
  of_parts 0x6F (.three .rraAbs) (.word w) rfl rfl rfl rfl
theorem bvs (b : Byte) : Statement (.bvs b) :=
  of_parts 0x70 (.two .bvs) (.byte b) rfl rfl rfl rfl
theorem adcIzy (b : Byte) : Statement (.adcIzy b) :=
  of_parts 0x71 (.two .adcIzy) (.byte b) rfl rfl rfl rfl
theorem unk72 : Statement .unk72 :=
  of_parts 0x72 (.one .unk72) .none rfl rfl rfl rfl
theorem rraIzy (b : Byte) : Statement (.rraIzy b) :=
  of_parts 0x73 (.two .rraIzy) (.byte b) rfl rfl rfl rfl
theorem nopZpx74 (b : Byte) : Statement (.nopZpx74 b) :=
  of_parts 0x74 (.two .nopZpx74) (.byte b) rfl rfl rfl rfl
theorem adcZpx (b : Byte) : Statement (.adcZpx b) :=
  of_parts 0x75 (.two .adcZpx) (.byte b) rfl rfl rfl rfl
theorem rorZpx (b : Byte) : Statement (.rorZpx b) :=
  of_parts 0x76 (.two .rorZpx) (.byte b) rfl rfl rfl rfl
theorem rraZpx (b : Byte) : Statement (.rraZpx b) :=
  of_parts 0x77 (.two .rraZpx) (.byte b) rfl rfl rfl rfl
theorem sei : Statement .sei :=
  of_parts 0x78 (.one .sei) .none rfl rfl rfl rfl
theorem adcAby (w : Word) : Statement (.adcAby w) :=
  of_parts 0x79 (.three .adcAby) (.word w) rfl rfl rfl rfl
theorem nop7A : Statement .nop7A :=
  of_parts 0x7A (.one .nop7A) .none rfl rfl rfl rfl
theorem rraAby (w : Word) : Statement (.rraAby w) :=
  of_parts 0x7B (.three .rraAby) (.word w) rfl rfl rfl rfl
theorem nopAbx7C (w : Word) : Statement (.nopAbx7C w) :=
  of_parts 0x7C (.three .nopAbx7C) (.word w) rfl rfl rfl rfl
theorem adcAbx (w : Word) : Statement (.adcAbx w) :=
  of_parts 0x7D (.three .adcAbx) (.word w) rfl rfl rfl rfl
theorem rorAbx (w : Word) : Statement (.rorAbx w) :=
  of_parts 0x7E (.three .rorAbx) (.word w) rfl rfl rfl rfl
theorem rraAbx (w : Word) : Statement (.rraAbx w) :=
  of_parts 0x7F (.three .rraAbx) (.word w) rfl rfl rfl rfl
theorem nopImm80 (b : Byte) : Statement (.nopImm80 b) :=
  of_parts 0x80 (.two .nopImm80) (.byte b) rfl rfl rfl rfl
theorem staIzx (b : Byte) : Statement (.staIzx b) :=
  of_parts 0x81 (.two .staIzx) (.byte b) rfl rfl rfl rfl
theorem unk82 : Statement .unk82 :=
  of_parts 0x82 (.one .unk82) .none rfl rfl rfl rfl
theorem saxIzx (b : Byte) : Statement (.saxIzx b) :=
  of_parts 0x83 (.two .saxIzx) (.byte b) rfl rfl rfl rfl
theorem styZp (b : Byte) : Statement (.styZp b) :=
  of_parts 0x84 (.two .styZp) (.byte b) rfl rfl rfl rfl
theorem staZp (b : Byte) : Statement (.staZp b) :=
  of_parts 0x85 (.two .staZp) (.byte b) rfl rfl rfl rfl
theorem stxZp (b : Byte) : Statement (.stxZp b) :=
  of_parts 0x86 (.two .stxZp) (.byte b) rfl rfl rfl rfl
theorem saxZp (b : Byte) : Statement (.saxZp b) :=
  of_parts 0x87 (.two .saxZp) (.byte b) rfl rfl rfl rfl
theorem dey : Statement .dey :=
  of_parts 0x88 (.one .dey) .none rfl rfl rfl rfl
theorem unk89 : Statement .unk89 :=
  of_parts 0x89 (.one .unk89) .none rfl rfl rfl rfl
theorem txa : Statement .txa :=
  of_parts 0x8A (.one .txa) .none rfl rfl rfl rfl
theorem unk8B : Statement .unk8B :=
  of_parts 0x8B (.one .unk8B) .none rfl rfl rfl rfl
theorem styAbs (w : Word) : Statement (.styAbs w) :=
  of_parts 0x8C (.three .styAbs) (.word w) rfl rfl rfl rfl
theorem staAbs (w : Word) : Statement (.staAbs w) :=
  of_parts 0x8D (.three .staAbs) (.word w) rfl rfl rfl rfl
theorem stxAbs (w : Word) : Statement (.stxAbs w) :=
  of_parts 0x8E (.three .stxAbs) (.word w) rfl rfl rfl rfl
theorem saxAbs (w : Word) : Statement (.saxAbs w) :=
  of_parts 0x8F (.three .saxAbs) (.word w) rfl rfl rfl rfl
theorem bcc (b : Byte) : Statement (.bcc b) :=
  of_parts 0x90 (.two .bcc) (.byte b) rfl rfl rfl rfl
theorem staIzy (b : Byte) : Statement (.staIzy b) :=
  of_parts 0x91 (.two .staIzy) (.byte b) rfl rfl rfl rfl
theorem unk92 : Statement .unk92 :=
  of_parts 0x92 (.one .unk92) .none rfl rfl rfl rfl
theorem unk93 : Statement .unk93 :=
  of_parts 0x93 (.one .unk93) .none rfl rfl rfl rfl
theorem styZpx (b : Byte) : Statement (.styZpx b) :=
  of_parts 0x94 (.two .styZpx) (.byte b) rfl rfl rfl rfl
theorem staZpx (b : Byte) : Statement (.staZpx b) :=
  of_parts 0x95 (.two .staZpx) (.byte b) rfl rfl rfl rfl
theorem stxZpy (b : Byte) : Statement (.stxZpy b) :=
  of_parts 0x96 (.two .stxZpy) (.byte b) rfl rfl rfl rfl
theorem saxZpy (b : Byte) : Statement (.saxZpy b) :=
  of_parts 0x97 (.two .saxZpy) (.byte b) rfl rfl rfl rfl
theorem tya : Statement .tya :=
  of_parts 0x98 (.one .tya) .none rfl rfl rfl rfl
theorem staAby (w : Word) : Statement (.staAby w) :=
  of_parts 0x99 (.three .staAby) (.word w) rfl rfl rfl rfl
theorem txs : Statement .txs :=
  of_parts 0x9A (.one .txs) .none rfl rfl rfl rfl
theorem unk9B : Statement .unk9B :=
  of_parts 0x9B (.one .unk9B) .none rfl rfl rfl rfl
theorem unk9C : Statement .unk9C :=
  of_parts 0x9C (.one .unk9C) .none rfl rfl rfl rfl
theorem staAbx (w : Word) : Statement (.staAbx w) :=
  of_parts 0x9D (.three .staAbx) (.word w) rfl rfl rfl rfl
theorem unk9E : Statement .unk9E :=
  of_parts 0x9E (.one .unk9E) .none rfl rfl rfl rfl
theorem unk9F : Statement .unk9F :=
  of_parts 0x9F (.one .unk9F) .none rfl rfl rfl rfl
theorem ldyImm (b : Byte) : Statement (.ldyImm b) :=
  of_parts 0xA0 (.two .ldyImm) (.byte b) rfl rfl rfl rfl
theorem ldaIzx (b : Byte) : Statement (.ldaIzx b) :=
  of_parts 0xA1 (.two .ldaIzx) (.byte b) rfl rfl rfl rfl
theorem ldxImm (b : Byte) : Statement (.ldxImm b) :=
  of_parts 0xA2 (.two .ldxImm) (.byte b) rfl rfl rfl rfl
theorem laxIzx (b : Byte) : Statement (.laxIzx b) :=
  of_parts 0xA3 (.two .laxIzx) (.byte b) rfl rfl rfl rfl
theorem ldyZp (b : Byte) : Statement (.ldyZp b) :=
  of_parts 0xA4 (.two .ldyZp) (.byte b) rfl rfl rfl rfl
theorem ldaZp (b : Byte) : Statement (.ldaZp b) :=
  of_parts 0xA5 (.two .ldaZp) (.byte b) rfl rfl rfl rfl
theorem ldxZp (b : Byte) : Statement (.ldxZp b) :=
  of_parts 0xA6 (.two .ldxZp) (.byte b) rfl rfl rfl rfl
theorem laxZp (b : Byte) : Statement (.laxZp b) :=
  of_parts 0xA7 (.two .laxZp) (.byte b) rfl rfl rfl rfl
theorem tay : Statement .tay :=
  of_parts 0xA8 (.one .tay) .none rfl rfl rfl rfl
theorem ldaImm (b : Byte) : Statement (.ldaImm b) :=
  of_parts 0xA9 (.two .ldaImm) (.byte b) rfl rfl rfl rfl
theorem tax : Statement .tax :=
  of_parts 0xAA (.one .tax) .none rfl rfl rfl rfl
theorem unkAB : Statement .unkAB :=
  of_parts 0xAB (.one .unkAB) .none rfl rfl rfl rfl
theorem ldyAbs (w : Word) : Statement (.ldyAbs w) :=
  of_parts 0xAC (.three .ldyAbs) (.word w) rfl rfl rfl rfl
theorem ldaAbs (w : Word) : Statement (.ldaAbs w) :=
  of_parts 0xAD (.three .ldaAbs) (.word w) rfl rfl rfl rfl
theorem ldxAbs (w : Word) : Statement (.ldxAbs w) :=
  of_parts 0xAE (.three .ldxAbs) (.word w) rfl rfl rfl rfl
theorem laxAbs (w : Word) : Statement (.laxAbs w) :=
  of_parts 0xAF (.three .laxAbs) (.word w) rfl rfl rfl rfl
theorem bcs (b : Byte) : Statement (.bcs b) :=
  of_parts 0xB0 (.two .bcs) (.byte b) rfl rfl rfl rfl
theorem ldaIzy (b : Byte) : Statement (.ldaIzy b) :=
  of_parts 0xB1 (.two .ldaIzy) (.byte b) rfl rfl rfl rfl
theorem unkB2 : Statement .unkB2 :=
  of_parts 0xB2 (.one .unkB2) .none rfl rfl rfl rfl
theorem laxIzy (b : Byte) : Statement (.laxIzy b) :=
  of_parts 0xB3 (.two .laxIzy) (.byte b) rfl rfl rfl rfl
theorem ldyZpx (b : Byte) : Statement (.ldyZpx b) :=
  of_parts 0xB4 (.two .ldyZpx) (.byte b) rfl rfl rfl rfl
theorem ldaZpx (b : Byte) : Statement (.ldaZpx b) :=
  of_parts 0xB5 (.two .ldaZpx) (.byte b) rfl rfl rfl rfl
theorem ldxZpy (b : Byte) : Statement (.ldxZpy b) :=
  of_parts 0xB6 (.two .ldxZpy) (.byte b) rfl rfl rfl rfl
theorem laxZpy (b : Byte) : Statement (.laxZpy b) :=
  of_parts 0xB7 (.two .laxZpy) (.byte b) rfl rfl rfl rfl
theorem clv : Statement .clv :=
  of_parts 0xB8 (.one .clv) .none rfl rfl rfl rfl
theorem ldaAby (w : Word) : Statement (.ldaAby w) :=
  of_parts 0xB9 (.three .ldaAby) (.word w) rfl rfl rfl rfl
theorem tsx : Statement .tsx :=
  of_parts 0xBA (.one .tsx) .none rfl rfl rfl rfl
theorem unkBB : Statement .unkBB :=
  of_parts 0xBB (.one .unkBB) .none rfl rfl rfl rfl
theorem ldyAbx (w : Word) : Statement (.ldyAbx w) :=
  of_parts 0xBC (.three .ldyAbx) (.word w) rfl rfl rfl rfl
theorem ldaAbx (w : Word) : Statement (.ldaAbx w) :=
  of_parts 0xBD (.three .ldaAbx) (.word w) rfl rfl rfl rfl
theorem ldxAby (w : Word) : Statement (.ldxAby w) :=
  of_parts 0xBE (.three .ldxAby) (.word w) rfl rfl rfl rfl
theorem laxAby (w : Word) : Statement (.laxAby w) :=
  of_parts 0xBF (.three .laxAby) (.word w) rfl rfl rfl rfl
theorem cpyImm (b : Byte) : Statement (.cpyImm b) :=
  of_parts 0xC0 (.two .cpyImm) (.byte b) rfl rfl rfl rfl
theorem cmpIzx (b : Byte) : Statement (.cmpIzx b) :=
  of_parts 0xC1 (.two .cmpIzx) (.byte b) rfl rfl rfl rfl
theorem unkC2 : Statement .unkC2 :=
  of_parts 0xC2 (.one .unkC2) .none rfl rfl rfl rfl
theorem dcpIzx (b : Byte) : Statement (.dcpIzx b) :=
  of_parts 0xC3 (.two .dcpIzx) (.byte b) rfl rfl rfl rfl
theorem cpyZp (b : Byte) : Statement (.cpyZp b) :=
  of_parts 0xC4 (.two .cpyZp) (.byte b) rfl rfl rfl rfl
theorem cmpZp (b : Byte) : Statement (.cmpZp b) :=
  of_parts 0xC5 (.two .cmpZp) (.byte b) rfl rfl rfl rfl
theorem decZp (b : Byte) : Statement (.decZp b) :=
  of_parts 0xC6 (.two .decZp) (.byte b) rfl rfl rfl rfl
theorem dcpZp (b : Byte) : Statement (.dcpZp b) :=
  of_parts 0xC7 (.two .dcpZp) (.byte b) rfl rfl rfl rfl
theorem iny : Statement .iny :=
  of_parts 0xC8 (.one .iny) .none rfl rfl rfl rfl
theorem cmpImm (b : Byte) : Statement (.cmpImm b) :=
  of_parts 0xC9 (.two .cmpImm) (.byte b) rfl rfl rfl rfl
theorem dex : Statement .dex :=
  of_parts 0xCA (.one .dex) .none rfl rfl rfl rfl
theorem unkCB : Statement .unkCB :=
  of_parts 0xCB (.one .unkCB) .none rfl rfl rfl rfl
theorem cpyAbs (w : Word) : Statement (.cpyAbs w) :=
  of_parts 0xCC (.three .cpyAbs) (.word w) rfl rfl rfl rfl
theorem cmpAbs (w : Word) : Statement (.cmpAbs w) :=
  of_parts 0xCD (.three .cmpAbs) (.word w) rfl rfl rfl rfl
theorem decAbs (w : Word) : Statement (.decAbs w) :=
  of_parts 0xCE (.three .decAbs) (.word w) rfl rfl rfl rfl
theorem dcpAbs (w : Word) : Statement (.dcpAbs w) :=
  of_parts 0xCF (.three .dcpAbs) (.word w) rfl rfl rfl rfl
theorem bne (b : Byte) : Statement (.bne b) :=
  of_parts 0xD0 (.two .bne) (.byte b) rfl rfl rfl rfl
theorem cmpIzy (b : Byte) : Statement (.cmpIzy b) :=
  of_parts 0xD1 (.two .cmpIzy) (.byte b) rfl rfl rfl rfl
theorem unkD2 : Statement .unkD2 :=
  of_parts 0xD2 (.one .unkD2) .none rfl rfl rfl rfl
theorem dcpIzy (b : Byte) : Statement (.dcpIzy b) :=
  of_parts 0xD3 (.two .dcpIzy) (.byte b) rfl rfl rfl rfl
theorem nopZpxD4 (b : Byte) : Statement (.nopZpxD4 b) :=
  of_parts 0xD4 (.two .nopZpxD4) (.byte b) rfl rfl rfl rfl
theorem cmpZpx (b : Byte) : Statement (.cmpZpx b) :=
  of_parts 0xD5 (.two .cmpZpx) (.byte b) rfl rfl rfl rfl
theorem decZpx (b : Byte) : Statement (.decZpx b) :=
  of_parts 0xD6 (.two .decZpx) (.byte b) rfl rfl rfl rfl
theorem dcpZpx (b : Byte) : Statement (.dcpZpx b) :=
  of_parts 0xD7 (.two .dcpZpx) (.byte b) rfl rfl rfl rfl
theorem cld : Statement .cld :=
  of_parts 0xD8 (.one .cld) .none rfl rfl rfl rfl
theorem cmpAby (w : Word) : Statement (.cmpAby w) :=
  of_parts 0xD9 (.three .cmpAby) (.word w) rfl rfl rfl rfl
theorem nopDA : Statement .nopDA :=
  of_parts 0xDA (.one .nopDA) .none rfl rfl rfl rfl
theorem dcpAby (w : Word) : Statement (.dcpAby w) :=
  of_parts 0xDB (.three .dcpAby) (.word w) rfl rfl rfl rfl
theorem nopAbxDC (w : Word) : Statement (.nopAbxDC w) :=
  of_parts 0xDC (.three .nopAbxDC) (.word w) rfl rfl rfl rfl
theorem cmpAbx (w : Word) : Statement (.cmpAbx w) :=
  of_parts 0xDD (.three .cmpAbx) (.word w) rfl rfl rfl rfl
theorem decAbx (w : Word) : Statement (.decAbx w) :=
  of_parts 0xDE (.three .decAbx) (.word w) rfl rfl rfl rfl
theorem dcpAbx (w : Word) : Statement (.dcpAbx w) :=
  of_parts 0xDF (.three .dcpAbx) (.word w) rfl rfl rfl rfl
theorem cpxImm (b : Byte) : Statement (.cpxImm b) :=
  of_parts 0xE0 (.two .cpxImm) (.byte b) rfl rfl rfl rfl
theorem sbcIzx (b : Byte) : Statement (.sbcIzx b) :=
  of_parts 0xE1 (.two .sbcIzx) (.byte b) rfl rfl rfl rfl
theorem unkE2 : Statement .unkE2 :=
  of_parts 0xE2 (.one .unkE2) .none rfl rfl rfl rfl
theorem isbIzx (b : Byte) : Statement (.isbIzx b) :=
  of_parts 0xE3 (.two .isbIzx) (.byte b) rfl rfl rfl rfl
theorem cpxZp (b : Byte) : Statement (.cpxZp b) :=
  of_parts 0xE4 (.two .cpxZp) (.byte b) rfl rfl rfl rfl
theorem sbcZp (b : Byte) : Statement (.sbcZp b) :=
  of_parts 0xE5 (.two .sbcZp) (.byte b) rfl rfl rfl rfl
theorem incZp (b : Byte) : Statement (.incZp b) :=
  of_parts 0xE6 (.two .incZp) (.byte b) rfl rfl rfl rfl
theorem isbZp (b : Byte) : Statement (.isbZp b) :=
  of_parts 0xE7 (.two .isbZp) (.byte b) rfl rfl rfl rfl
theorem inx : Statement .inx :=
  of_parts 0xE8 (.one .inx) .none rfl rfl rfl rfl
theorem sbcImm (b : Byte) : Statement (.sbcImm b) :=
  of_parts 0xE9 (.two .sbcImm) (.byte b) rfl rfl rfl rfl
theorem nop : Statement .nop :=
  of_parts 0xEA (.one .nop) .none rfl rfl rfl rfl
theorem sbcImmEB (b : Byte) : Statement (.sbcImmEB b) :=
  of_parts 0xEB (.two .sbcImmEB) (.byte b) rfl rfl rfl rfl
theorem cpxAbs (w : Word) : Statement (.cpxAbs w) :=
  of_parts 0xEC (.three .cpxAbs) (.word w) rfl rfl rfl rfl
theorem sbcAbs (w : Word) : Statement (.sbcAbs w) :=
  of_parts 0xED (.three .sbcAbs) (.word w) rfl rfl rfl rfl
theorem incAbs (w : Word) : Statement (.incAbs w) :=
  of_parts 0xEE (.three .incAbs) (.word w) rfl rfl rfl rfl
theorem isbAbs (w : Word) : Statement (.isbAbs w) :=
  of_parts 0xEF (.three .isbAbs) (.word w) rfl rfl rfl rfl
theorem beq (b : Byte) : Statement (.beq b) :=
  of_parts 0xF0 (.two .beq) (.byte b) rfl rfl rfl rfl
theorem sbcIzy (b : Byte) : Statement (.sbcIzy b) :=
  of_parts 0xF1 (.two .sbcIzy) (.byte b) rfl rfl rfl rfl
theorem unkF2 : Statement .unkF2 :=
  of_parts 0xF2 (.one .unkF2) .none rfl rfl rfl rfl
theorem isbIzy (b : Byte) : Statement (.isbIzy b) :=
  of_parts 0xF3 (.two .isbIzy) (.byte b) rfl rfl rfl rfl
theorem nopZpxF4 (b : Byte) : Statement (.nopZpxF4 b) :=
  of_parts 0xF4 (.two .nopZpxF4) (.byte b) rfl rfl rfl rfl
theorem sbcZpx (b : Byte) : Statement (.sbcZpx b) :=
  of_parts 0xF5 (.two .sbcZpx) (.byte b) rfl rfl rfl rfl
theorem incZpx (b : Byte) : Statement (.incZpx b) :=
  of_parts 0xF6 (.two .incZpx) (.byte b) rfl rfl rfl rfl
theorem isbZpx (b : Byte) : Statement (.isbZpx b) :=
  of_parts 0xF7 (.two .isbZpx) (.byte b) rfl rfl rfl rfl
theorem sed : Statement .sed :=
  of_parts 0xF8 (.one .sed) .none rfl rfl rfl rfl
theorem sbcAby (w : Word) : Statement (.sbcAby w) :=
  of_parts 0xF9 (.three .sbcAby) (.word w) rfl rfl rfl rfl
theorem nopFA : Statement .nopFA :=
  of_parts 0xFA (.one .nopFA) .none rfl rfl rfl rfl
theorem isbAby (w : Word) : Statement (.isbAby w) :=
  of_parts 0xFB (.three .isbAby) (.word w) rfl rfl rfl rfl
theorem nopAbxFC (w : Word) : Statement (.nopAbxFC w) :=
  of_parts 0xFC (.three .nopAbxFC) (.word w) rfl rfl rfl rfl
theorem sbcAbx (w : Word) : Statement (.sbcAbx w) :=
  of_parts 0xFD (.three .sbcAbx) (.word w) rfl rfl rfl rfl
theorem incAbx (w : Word) : Statement (.incAbx w) :=
  of_parts 0xFE (.three .incAbx) (.word w) rfl rfl rfl rfl
theorem isbAbx (w : Word) : Statement (.isbAbx w) :=
  of_parts 0xFF (.three .isbAbx) (.word w) rfl rfl rfl rfl

end Sys2Proof.Laws.Encoding
end

