-- ==== Sys2Proof/Laws/WellFormed.lean ====
section
/-! SUPPORT. The well-formedness check of WellFormed.lean holds of every term: an operand's type already is the byte or
the word its format has (R60). -/

namespace Sys2Proof

theorem OperandBytes.fits_all (o : OperandBytes) : o.fits = true := by
  cases o with
  | none => rfl
  | byte b => simpa [OperandBytes.fits] using b.isLt
  | word w => simpa [OperandBytes.fits] using w.isLt

theorem Instr.wellFormed_all (i : Instr) : i.wellFormed = true := OperandBytes.fits_all _

end Sys2Proof
end

