-- ==== Sys2Proof/Tests/Slice0.lean ====
section
/-! SUPPORT. The model's own tests: ill-formed bytes the check refuses, every constructor's word as the spec's opcode
map writes it (spec/30_encoding.md R76), single steps with the values of spec/95_test_vectors.md, and a witness that the
hypotheses of each statement can be met. -/

namespace Sys2Proof.Tests

open Sys2Proof Sys2Proof.Machine

-- One test at a time: side by side, each would wait for the kernel on a thread of its own.
set_option Elab.async false

/-! ### Ill-formed bytes, refused by name (R60) -/

theorem test_smoke_no_opcode : wholeInstruction [] = false ∧ decode [] = .error .noOpcode := ⟨by decide, rfl⟩
theorem test_smoke_truncated_two : wholeInstruction [0xA9] = false ∧ decode [0xA9] = .error (.truncated 0xA9) :=
  ⟨by decide, rfl⟩
theorem test_smoke_truncated_three : wholeInstruction [0x4C] = false ∧ wholeInstruction [0x4C, 0x00] = false ∧
    decode [0x4C, 0x00] = .error (.truncated 0x4C) := ⟨by decide, by decide, rfl⟩
theorem test_smoke_trailing : wholeInstruction [0xEA, 0xEA] = false ∧ wholeInstruction [0xA9, 0x00, 0x00] = false ∧
    wholeInstruction [0x4C, 0x00, 0x02, 0xEA] = false := by decide
theorem test_smoke_whole : wholeInstruction [0xEA] = true ∧ wholeInstruction [0xA9, 0x00] = true ∧
    wholeInstruction [0x4C, 0x00, 0x02] = true ∧ Instr.wellFormed (.jmpAbs 0x0200) = true := by decide

/-! ### Every constructor's word, from the matrix of R76: operand byte $34, or the operand bytes $34 $12 -/

theorem test_decode_row_0 :
    decode [0x00] = .ok (.brk, []) ∧ decode [0x01, 0x34] = .ok (.oraIzx 0x34, []) ∧
    decode [0x02] = .ok (.unk02, []) ∧ decode [0x03, 0x34] = .ok (.sloIzx 0x34, []) ∧
    decode [0x04, 0x34] = .ok (.nopZp04 0x34, []) ∧ decode [0x05, 0x34] = .ok (.oraZp 0x34, []) ∧
    decode [0x06, 0x34] = .ok (.aslZp 0x34, []) ∧ decode [0x07, 0x34] = .ok (.sloZp 0x34, []) ∧
    decode [0x08] = .ok (.php, []) ∧ decode [0x09, 0x34] = .ok (.oraImm 0x34, []) ∧
    decode [0x0A] = .ok (.aslAcc, []) ∧ decode [0x0B] = .ok (.unk0B, []) ∧
    decode [0x0C, 0x34, 0x12] = .ok (.nopAbs0C 0x1234, []) ∧ decode [0x0D, 0x34, 0x12] = .ok (.oraAbs 0x1234, []) ∧
    decode [0x0E, 0x34, 0x12] = .ok (.aslAbs 0x1234, []) ∧ decode [0x0F, 0x34, 0x12] = .ok (.sloAbs 0x1234, []) :=
  ⟨rfl, rfl, rfl, rfl, rfl, rfl, rfl, rfl, rfl, rfl, rfl, rfl, rfl, rfl, rfl, rfl⟩
theorem test_decode_row_1 :
    decode [0x10, 0x34] = .ok (.bpl 0x34, []) ∧ decode [0x11, 0x34] = .ok (.oraIzy 0x34, []) ∧
    decode [0x12] = .ok (.unk12, []) ∧ decode [0x13, 0x34] = .ok (.sloIzy 0x34, []) ∧
    decode [0x14, 0x34] = .ok (.nopZpx14 0x34, []) ∧ decode [0x15, 0x34] = .ok (.oraZpx 0x34, []) ∧
    decode [0x16, 0x34] = .ok (.aslZpx 0x34, []) ∧ decode [0x17, 0x34] = .ok (.sloZpx 0x34, []) ∧
    decode [0x18] = .ok (.clc, []) ∧ decode [0x19, 0x34, 0x12] = .ok (.oraAby 0x1234, []) ∧
    decode [0x1A] = .ok (.nop1A, []) ∧ decode [0x1B, 0x34, 0x12] = .ok (.sloAby 0x1234, []) ∧
    decode [0x1C, 0x34, 0x12] = .ok (.nopAbx1C 0x1234, []) ∧ decode [0x1D, 0x34, 0x12] = .ok (.oraAbx 0x1234, []) ∧
    decode [0x1E, 0x34, 0x12] = .ok (.aslAbx 0x1234, []) ∧ decode [0x1F, 0x34, 0x12] = .ok (.sloAbx 0x1234, []) :=
  ⟨rfl, rfl, rfl, rfl, rfl, rfl, rfl, rfl, rfl, rfl, rfl, rfl, rfl, rfl, rfl, rfl⟩
theorem test_decode_row_2 :
    decode [0x20, 0x34, 0x12] = .ok (.jsr 0x1234, []) ∧ decode [0x21, 0x34] = .ok (.andIzx 0x34, []) ∧
    decode [0x22] = .ok (.unk22, []) ∧ decode [0x23, 0x34] = .ok (.rlaIzx 0x34, []) ∧
    decode [0x24, 0x34] = .ok (.bitZp 0x34, []) ∧ decode [0x25, 0x34] = .ok (.andZp 0x34, []) ∧
    decode [0x26, 0x34] = .ok (.rolZp 0x34, []) ∧ decode [0x27, 0x34] = .ok (.rlaZp 0x34, []) ∧
    decode [0x28] = .ok (.plp, []) ∧ decode [0x29, 0x34] = .ok (.andImm 0x34, []) ∧
    decode [0x2A] = .ok (.rolAcc, []) ∧ decode [0x2B] = .ok (.unk2B, []) ∧
    decode [0x2C, 0x34, 0x12] = .ok (.bitAbs 0x1234, []) ∧ decode [0x2D, 0x34, 0x12] = .ok (.andAbs 0x1234, []) ∧
    decode [0x2E, 0x34, 0x12] = .ok (.rolAbs 0x1234, []) ∧ decode [0x2F, 0x34, 0x12] = .ok (.rlaAbs 0x1234, []) :=
  ⟨rfl, rfl, rfl, rfl, rfl, rfl, rfl, rfl, rfl, rfl, rfl, rfl, rfl, rfl, rfl, rfl⟩
theorem test_decode_row_3 :
    decode [0x30, 0x34] = .ok (.bmi 0x34, []) ∧ decode [0x31, 0x34] = .ok (.andIzy 0x34, []) ∧
    decode [0x32] = .ok (.unk32, []) ∧ decode [0x33, 0x34] = .ok (.rlaIzy 0x34, []) ∧
    decode [0x34, 0x34] = .ok (.nopZpx34 0x34, []) ∧ decode [0x35, 0x34] = .ok (.andZpx 0x34, []) ∧
    decode [0x36, 0x34] = .ok (.rolZpx 0x34, []) ∧ decode [0x37, 0x34] = .ok (.rlaZpx 0x34, []) ∧
    decode [0x38] = .ok (.sec, []) ∧ decode [0x39, 0x34, 0x12] = .ok (.andAby 0x1234, []) ∧
    decode [0x3A] = .ok (.nop3A, []) ∧ decode [0x3B, 0x34, 0x12] = .ok (.rlaAby 0x1234, []) ∧
    decode [0x3C, 0x34, 0x12] = .ok (.nopAbx3C 0x1234, []) ∧ decode [0x3D, 0x34, 0x12] = .ok (.andAbx 0x1234, []) ∧
    decode [0x3E, 0x34, 0x12] = .ok (.rolAbx 0x1234, []) ∧ decode [0x3F, 0x34, 0x12] = .ok (.rlaAbx 0x1234, []) :=
  ⟨rfl, rfl, rfl, rfl, rfl, rfl, rfl, rfl, rfl, rfl, rfl, rfl, rfl, rfl, rfl, rfl⟩
theorem test_decode_row_4 :
    decode [0x40] = .ok (.rti, []) ∧ decode [0x41, 0x34] = .ok (.eorIzx 0x34, []) ∧
    decode [0x42] = .ok (.unk42, []) ∧ decode [0x43, 0x34] = .ok (.sreIzx 0x34, []) ∧
    decode [0x44, 0x34] = .ok (.nopZp44 0x34, []) ∧ decode [0x45, 0x34] = .ok (.eorZp 0x34, []) ∧
    decode [0x46, 0x34] = .ok (.lsrZp 0x34, []) ∧ decode [0x47, 0x34] = .ok (.sreZp 0x34, []) ∧
    decode [0x48] = .ok (.pha, []) ∧ decode [0x49, 0x34] = .ok (.eorImm 0x34, []) ∧
    decode [0x4A] = .ok (.lsrAcc, []) ∧ decode [0x4B] = .ok (.unk4B, []) ∧
    decode [0x4C, 0x34, 0x12] = .ok (.jmpAbs 0x1234, []) ∧ decode [0x4D, 0x34, 0x12] = .ok (.eorAbs 0x1234, []) ∧
    decode [0x4E, 0x34, 0x12] = .ok (.lsrAbs 0x1234, []) ∧ decode [0x4F, 0x34, 0x12] = .ok (.sreAbs 0x1234, []) :=
  ⟨rfl, rfl, rfl, rfl, rfl, rfl, rfl, rfl, rfl, rfl, rfl, rfl, rfl, rfl, rfl, rfl⟩
theorem test_decode_row_5 :
    decode [0x50, 0x34] = .ok (.bvc 0x34, []) ∧ decode [0x51, 0x34] = .ok (.eorIzy 0x34, []) ∧
    decode [0x52] = .ok (.unk52, []) ∧ decode [0x53, 0x34] = .ok (.sreIzy 0x34, []) ∧
    decode [0x54, 0x34] = .ok (.nopZpx54 0x34, []) ∧ decode [0x55, 0x34] = .ok (.eorZpx 0x34, []) ∧
    decode [0x56, 0x34] = .ok (.lsrZpx 0x34, []) ∧ decode [0x57, 0x34] = .ok (.sreZpx 0x34, []) ∧
    decode [0x58] = .ok (.cli, []) ∧ decode [0x59, 0x34, 0x12] = .ok (.eorAby 0x1234, []) ∧
    decode [0x5A] = .ok (.nop5A, []) ∧ decode [0x5B, 0x34, 0x12] = .ok (.sreAby 0x1234, []) ∧
    decode [0x5C, 0x34, 0x12] = .ok (.nopAbx5C 0x1234, []) ∧ decode [0x5D, 0x34, 0x12] = .ok (.eorAbx 0x1234, []) ∧
    decode [0x5E, 0x34, 0x12] = .ok (.lsrAbx 0x1234, []) ∧ decode [0x5F, 0x34, 0x12] = .ok (.sreAbx 0x1234, []) :=
  ⟨rfl, rfl, rfl, rfl, rfl, rfl, rfl, rfl, rfl, rfl, rfl, rfl, rfl, rfl, rfl, rfl⟩
theorem test_decode_row_6 :
    decode [0x60] = .ok (.rts, []) ∧ decode [0x61, 0x34] = .ok (.adcIzx 0x34, []) ∧
    decode [0x62] = .ok (.unk62, []) ∧ decode [0x63, 0x34] = .ok (.rraIzx 0x34, []) ∧
    decode [0x64, 0x34] = .ok (.nopZp64 0x34, []) ∧ decode [0x65, 0x34] = .ok (.adcZp 0x34, []) ∧
    decode [0x66, 0x34] = .ok (.rorZp 0x34, []) ∧ decode [0x67, 0x34] = .ok (.rraZp 0x34, []) ∧
    decode [0x68] = .ok (.pla, []) ∧ decode [0x69, 0x34] = .ok (.adcImm 0x34, []) ∧
    decode [0x6A] = .ok (.rorAcc, []) ∧ decode [0x6B] = .ok (.unk6B, []) ∧
    decode [0x6C, 0x34, 0x12] = .ok (.jmpInd 0x1234, []) ∧ decode [0x6D, 0x34, 0x12] = .ok (.adcAbs 0x1234, []) ∧
    decode [0x6E, 0x34, 0x12] = .ok (.rorAbs 0x1234, []) ∧ decode [0x6F, 0x34, 0x12] = .ok (.rraAbs 0x1234, []) :=
  ⟨rfl, rfl, rfl, rfl, rfl, rfl, rfl, rfl, rfl, rfl, rfl, rfl, rfl, rfl, rfl, rfl⟩
theorem test_decode_row_7 :
    decode [0x70, 0x34] = .ok (.bvs 0x34, []) ∧ decode [0x71, 0x34] = .ok (.adcIzy 0x34, []) ∧
    decode [0x72] = .ok (.unk72, []) ∧ decode [0x73, 0x34] = .ok (.rraIzy 0x34, []) ∧
    decode [0x74, 0x34] = .ok (.nopZpx74 0x34, []) ∧ decode [0x75, 0x34] = .ok (.adcZpx 0x34, []) ∧
    decode [0x76, 0x34] = .ok (.rorZpx 0x34, []) ∧ decode [0x77, 0x34] = .ok (.rraZpx 0x34, []) ∧
    decode [0x78] = .ok (.sei, []) ∧ decode [0x79, 0x34, 0x12] = .ok (.adcAby 0x1234, []) ∧
    decode [0x7A] = .ok (.nop7A, []) ∧ decode [0x7B, 0x34, 0x12] = .ok (.rraAby 0x1234, []) ∧
    decode [0x7C, 0x34, 0x12] = .ok (.nopAbx7C 0x1234, []) ∧ decode [0x7D, 0x34, 0x12] = .ok (.adcAbx 0x1234, []) ∧
    decode [0x7E, 0x34, 0x12] = .ok (.rorAbx 0x1234, []) ∧ decode [0x7F, 0x34, 0x12] = .ok (.rraAbx 0x1234, []) :=
  ⟨rfl, rfl, rfl, rfl, rfl, rfl, rfl, rfl, rfl, rfl, rfl, rfl, rfl, rfl, rfl, rfl⟩
theorem test_decode_row_8 :
    decode [0x80, 0x34] = .ok (.nopImm80 0x34, []) ∧ decode [0x81, 0x34] = .ok (.staIzx 0x34, []) ∧
    decode [0x82] = .ok (.unk82, []) ∧ decode [0x83, 0x34] = .ok (.saxIzx 0x34, []) ∧
    decode [0x84, 0x34] = .ok (.styZp 0x34, []) ∧ decode [0x85, 0x34] = .ok (.staZp 0x34, []) ∧
    decode [0x86, 0x34] = .ok (.stxZp 0x34, []) ∧ decode [0x87, 0x34] = .ok (.saxZp 0x34, []) ∧
    decode [0x88] = .ok (.dey, []) ∧ decode [0x89] = .ok (.unk89, []) ∧
    decode [0x8A] = .ok (.txa, []) ∧ decode [0x8B] = .ok (.unk8B, []) ∧
    decode [0x8C, 0x34, 0x12] = .ok (.styAbs 0x1234, []) ∧ decode [0x8D, 0x34, 0x12] = .ok (.staAbs 0x1234, []) ∧
    decode [0x8E, 0x34, 0x12] = .ok (.stxAbs 0x1234, []) ∧ decode [0x8F, 0x34, 0x12] = .ok (.saxAbs 0x1234, []) :=
  ⟨rfl, rfl, rfl, rfl, rfl, rfl, rfl, rfl, rfl, rfl, rfl, rfl, rfl, rfl, rfl, rfl⟩
theorem test_decode_row_9 :
    decode [0x90, 0x34] = .ok (.bcc 0x34, []) ∧ decode [0x91, 0x34] = .ok (.staIzy 0x34, []) ∧
    decode [0x92] = .ok (.unk92, []) ∧ decode [0x93] = .ok (.unk93, []) ∧
    decode [0x94, 0x34] = .ok (.styZpx 0x34, []) ∧ decode [0x95, 0x34] = .ok (.staZpx 0x34, []) ∧
    decode [0x96, 0x34] = .ok (.stxZpy 0x34, []) ∧ decode [0x97, 0x34] = .ok (.saxZpy 0x34, []) ∧
    decode [0x98] = .ok (.tya, []) ∧ decode [0x99, 0x34, 0x12] = .ok (.staAby 0x1234, []) ∧
    decode [0x9A] = .ok (.txs, []) ∧ decode [0x9B] = .ok (.unk9B, []) ∧
    decode [0x9C] = .ok (.unk9C, []) ∧ decode [0x9D, 0x34, 0x12] = .ok (.staAbx 0x1234, []) ∧
    decode [0x9E] = .ok (.unk9E, []) ∧ decode [0x9F] = .ok (.unk9F, []) :=
  ⟨rfl, rfl, rfl, rfl, rfl, rfl, rfl, rfl, rfl, rfl, rfl, rfl, rfl, rfl, rfl, rfl⟩
theorem test_decode_row_A :
    decode [0xA0, 0x34] = .ok (.ldyImm 0x34, []) ∧ decode [0xA1, 0x34] = .ok (.ldaIzx 0x34, []) ∧
    decode [0xA2, 0x34] = .ok (.ldxImm 0x34, []) ∧ decode [0xA3, 0x34] = .ok (.laxIzx 0x34, []) ∧
    decode [0xA4, 0x34] = .ok (.ldyZp 0x34, []) ∧ decode [0xA5, 0x34] = .ok (.ldaZp 0x34, []) ∧
    decode [0xA6, 0x34] = .ok (.ldxZp 0x34, []) ∧ decode [0xA7, 0x34] = .ok (.laxZp 0x34, []) ∧
    decode [0xA8] = .ok (.tay, []) ∧ decode [0xA9, 0x34] = .ok (.ldaImm 0x34, []) ∧
    decode [0xAA] = .ok (.tax, []) ∧ decode [0xAB] = .ok (.unkAB, []) ∧
    decode [0xAC, 0x34, 0x12] = .ok (.ldyAbs 0x1234, []) ∧ decode [0xAD, 0x34, 0x12] = .ok (.ldaAbs 0x1234, []) ∧
    decode [0xAE, 0x34, 0x12] = .ok (.ldxAbs 0x1234, []) ∧ decode [0xAF, 0x34, 0x12] = .ok (.laxAbs 0x1234, []) :=
  ⟨rfl, rfl, rfl, rfl, rfl, rfl, rfl, rfl, rfl, rfl, rfl, rfl, rfl, rfl, rfl, rfl⟩
theorem test_decode_row_B :
    decode [0xB0, 0x34] = .ok (.bcs 0x34, []) ∧ decode [0xB1, 0x34] = .ok (.ldaIzy 0x34, []) ∧
    decode [0xB2] = .ok (.unkB2, []) ∧ decode [0xB3, 0x34] = .ok (.laxIzy 0x34, []) ∧
    decode [0xB4, 0x34] = .ok (.ldyZpx 0x34, []) ∧ decode [0xB5, 0x34] = .ok (.ldaZpx 0x34, []) ∧
    decode [0xB6, 0x34] = .ok (.ldxZpy 0x34, []) ∧ decode [0xB7, 0x34] = .ok (.laxZpy 0x34, []) ∧
    decode [0xB8] = .ok (.clv, []) ∧ decode [0xB9, 0x34, 0x12] = .ok (.ldaAby 0x1234, []) ∧
    decode [0xBA] = .ok (.tsx, []) ∧ decode [0xBB] = .ok (.unkBB, []) ∧
    decode [0xBC, 0x34, 0x12] = .ok (.ldyAbx 0x1234, []) ∧ decode [0xBD, 0x34, 0x12] = .ok (.ldaAbx 0x1234, []) ∧
    decode [0xBE, 0x34, 0x12] = .ok (.ldxAby 0x1234, []) ∧ decode [0xBF, 0x34, 0x12] = .ok (.laxAby 0x1234, []) :=
  ⟨rfl, rfl, rfl, rfl, rfl, rfl, rfl, rfl, rfl, rfl, rfl, rfl, rfl, rfl, rfl, rfl⟩
theorem test_decode_row_C :
    decode [0xC0, 0x34] = .ok (.cpyImm 0x34, []) ∧ decode [0xC1, 0x34] = .ok (.cmpIzx 0x34, []) ∧
    decode [0xC2] = .ok (.unkC2, []) ∧ decode [0xC3, 0x34] = .ok (.dcpIzx 0x34, []) ∧
    decode [0xC4, 0x34] = .ok (.cpyZp 0x34, []) ∧ decode [0xC5, 0x34] = .ok (.cmpZp 0x34, []) ∧
    decode [0xC6, 0x34] = .ok (.decZp 0x34, []) ∧ decode [0xC7, 0x34] = .ok (.dcpZp 0x34, []) ∧
    decode [0xC8] = .ok (.iny, []) ∧ decode [0xC9, 0x34] = .ok (.cmpImm 0x34, []) ∧
    decode [0xCA] = .ok (.dex, []) ∧ decode [0xCB] = .ok (.unkCB, []) ∧
    decode [0xCC, 0x34, 0x12] = .ok (.cpyAbs 0x1234, []) ∧ decode [0xCD, 0x34, 0x12] = .ok (.cmpAbs 0x1234, []) ∧
    decode [0xCE, 0x34, 0x12] = .ok (.decAbs 0x1234, []) ∧ decode [0xCF, 0x34, 0x12] = .ok (.dcpAbs 0x1234, []) :=
  ⟨rfl, rfl, rfl, rfl, rfl, rfl, rfl, rfl, rfl, rfl, rfl, rfl, rfl, rfl, rfl, rfl⟩
theorem test_decode_row_D :
    decode [0xD0, 0x34] = .ok (.bne 0x34, []) ∧ decode [0xD1, 0x34] = .ok (.cmpIzy 0x34, []) ∧
    decode [0xD2] = .ok (.unkD2, []) ∧ decode [0xD3, 0x34] = .ok (.dcpIzy 0x34, []) ∧
    decode [0xD4, 0x34] = .ok (.nopZpxD4 0x34, []) ∧ decode [0xD5, 0x34] = .ok (.cmpZpx 0x34, []) ∧
    decode [0xD6, 0x34] = .ok (.decZpx 0x34, []) ∧ decode [0xD7, 0x34] = .ok (.dcpZpx 0x34, []) ∧
    decode [0xD8] = .ok (.cld, []) ∧ decode [0xD9, 0x34, 0x12] = .ok (.cmpAby 0x1234, []) ∧
    decode [0xDA] = .ok (.nopDA, []) ∧ decode [0xDB, 0x34, 0x12] = .ok (.dcpAby 0x1234, []) ∧
    decode [0xDC, 0x34, 0x12] = .ok (.nopAbxDC 0x1234, []) ∧ decode [0xDD, 0x34, 0x12] = .ok (.cmpAbx 0x1234, []) ∧
    decode [0xDE, 0x34, 0x12] = .ok (.decAbx 0x1234, []) ∧ decode [0xDF, 0x34, 0x12] = .ok (.dcpAbx 0x1234, []) :=
  ⟨rfl, rfl, rfl, rfl, rfl, rfl, rfl, rfl, rfl, rfl, rfl, rfl, rfl, rfl, rfl, rfl⟩
theorem test_decode_row_E :
    decode [0xE0, 0x34] = .ok (.cpxImm 0x34, []) ∧ decode [0xE1, 0x34] = .ok (.sbcIzx 0x34, []) ∧
    decode [0xE2] = .ok (.unkE2, []) ∧ decode [0xE3, 0x34] = .ok (.isbIzx 0x34, []) ∧
    decode [0xE4, 0x34] = .ok (.cpxZp 0x34, []) ∧ decode [0xE5, 0x34] = .ok (.sbcZp 0x34, []) ∧
    decode [0xE6, 0x34] = .ok (.incZp 0x34, []) ∧ decode [0xE7, 0x34] = .ok (.isbZp 0x34, []) ∧
    decode [0xE8] = .ok (.inx, []) ∧ decode [0xE9, 0x34] = .ok (.sbcImm 0x34, []) ∧
    decode [0xEA] = .ok (.nop, []) ∧ decode [0xEB, 0x34] = .ok (.sbcImmEB 0x34, []) ∧
    decode [0xEC, 0x34, 0x12] = .ok (.cpxAbs 0x1234, []) ∧ decode [0xED, 0x34, 0x12] = .ok (.sbcAbs 0x1234, []) ∧
    decode [0xEE, 0x34, 0x12] = .ok (.incAbs 0x1234, []) ∧ decode [0xEF, 0x34, 0x12] = .ok (.isbAbs 0x1234, []) :=
  ⟨rfl, rfl, rfl, rfl, rfl, rfl, rfl, rfl, rfl, rfl, rfl, rfl, rfl, rfl, rfl, rfl⟩
theorem test_decode_row_F :
    decode [0xF0, 0x34] = .ok (.beq 0x34, []) ∧ decode [0xF1, 0x34] = .ok (.sbcIzy 0x34, []) ∧
    decode [0xF2] = .ok (.unkF2, []) ∧ decode [0xF3, 0x34] = .ok (.isbIzy 0x34, []) ∧
    decode [0xF4, 0x34] = .ok (.nopZpxF4 0x34, []) ∧ decode [0xF5, 0x34] = .ok (.sbcZpx 0x34, []) ∧
    decode [0xF6, 0x34] = .ok (.incZpx 0x34, []) ∧ decode [0xF7, 0x34] = .ok (.isbZpx 0x34, []) ∧
    decode [0xF8] = .ok (.sed, []) ∧ decode [0xF9, 0x34, 0x12] = .ok (.sbcAby 0x1234, []) ∧
    decode [0xFA] = .ok (.nopFA, []) ∧ decode [0xFB, 0x34, 0x12] = .ok (.isbAby 0x1234, []) ∧
    decode [0xFC, 0x34, 0x12] = .ok (.nopAbxFC 0x1234, []) ∧ decode [0xFD, 0x34, 0x12] = .ok (.sbcAbx 0x1234, []) ∧
    decode [0xFE, 0x34, 0x12] = .ok (.incAbx 0x1234, []) ∧ decode [0xFF, 0x34, 0x12] = .ok (.isbAbx 0x1234, []) :=
  ⟨rfl, rfl, rfl, rfl, rfl, rfl, rfl, rfl, rfl, rfl, rfl, rfl, rfl, rfl, rfl, rfl⟩

/-- A table word without its operand bits decodes with zero operands, and runs as the first instruction after reset. -/
theorem test_table_words : decodeTableWord 8 0xEA = some .nop ∧ decodeTableWord 8 0xAD = some (.ldaAbs 0) ∧
    decodeTableWord 16 0x10A9 = some (.ldaImm 0x10) ∧ decodeTableWord 24 0x1234AD = some (.ldaAbs 0x1234) :=
  ⟨rfl, rfl, rfl, rfl⟩
theorem test_first_after_reset : (fetch (State.reset.withFetchWord 24 0x1234AD)).1 = .ldaAbs 0x1234 := by decide +kernel

/-! ### One step each, values from spec/95_test_vectors.md, L2.1 to L2.6 -/

/-- Bytes placed from an address on. -/
def load (s : State) (a : Word) (bytes : List Byte) : State :=
  match bytes with
  | [] => s
  | b :: bs => load (s.place a b) (a + 1) bs

/-- Single bytes placed. -/
def poke (s : State) (cells : List (Word × Byte)) : State := cells.foldl (fun t c => t.place c.1 c.2) s

/-- The machine after reset with code at an address, `PC` there, and bytes of memory. -/
def scene (pc : Word) (code : List Byte) (cells : List (Word × Byte)) : State :=
  { load (poke State.reset cells) pc code with pc := pc }

/-- Whether an outcome is a next state of which `p` holds. -/
def nextIs (o : Host.Outcome State Fault Refusal) (p : State → Bool) : Bool :=
  match o with
  | .next t => p t
  | .fault _ => false
  | .refused _ => false

/-- The seven values of the snapshot accessor, as numbers. -/
def snap (s : State) : List Nat :=
  [s.a.toNat, s.x.toNat, s.y.toNat, s.sp.toNat, s.pc.toNat, s.p.toNat, s.cycle]

theorem test_step_ldaImm :
    nextIs (step { scene 0x0200 [0xA9, 0x00] [] with a := 0x55 }) (fun t =>
      t.a == 0x00 && t.p == 0x26 && t.pc == 0x0202 && t.cycle == 9) = true := by decide +kernel
theorem test_step_ldaImm_2 :
    nextIs (step (scene 0x0200 [0xA9, 0x80] [])) (fun t =>
      t.a == 0x80 && t.p == 0xA4 && t.cycle == 9) = true := by decide +kernel
theorem test_step_ldaZpx :
    nextIs (step { scene 0x0200 [0xB5, 0xFF] [(0x0001, 0x77), (0x0101, 0x99)] with x := 0x02 }) (fun t =>
      t.a == 0x77 && t.p == 0x24 && t.cycle == 11) = true := by decide +kernel
theorem test_step_ldxZpy :
    nextIs (step { scene 0x0200 [0xB6, 0xF0] [(0x0010, 0x42)] with y := 0x20 }) (fun t =>
      t.x == 0x42 && t.cycle == 11) = true := by decide +kernel
theorem test_step_ldaAbx :
    nextIs (step { scene 0x0200 [0xBD, 0xFF, 0x02] [(0x0300, 0x5A)] with x := 0x01 }) (fun t =>
      t.a == 0x5A && t.pc == 0x0203 && t.cycle == 12) = true := by decide +kernel
theorem test_step_ldaAbx_2 :
    nextIs (step { scene 0x0200 [0xBD, 0xFE, 0x02] [(0x02FF, 0x5B)] with x := 0x01 }) (fun t =>
      t.a == 0x5B && t.cycle == 11) = true := by decide +kernel
theorem test_step_ldaAby :
    nextIs (step { scene 0x0200 [0xB9, 0xFF, 0xFF] [(0x0000, 0x21)] with y := 0x01 }) (fun t =>
      t.a == 0x21 && t.cycle == 12) = true := by decide +kernel
theorem test_step_ldaIzx :
    nextIs (step { scene 0x0200 [0xA1, 0xFE] [(0x00FF, 0x34), (0x0000, 0x03), (0x0334,
      0xAB)] with x := 0x01 }) (fun t =>
      t.a == 0xAB && t.p == 0xA4 && t.cycle == 13) = true := by decide +kernel
theorem test_step_ldaIzy :
    nextIs (step { scene 0x0200 [0xB1, 0xFF] [(0x00FF, 0xFF), (0x0000, 0x02), (0x0300,
      0xCD)] with y := 0x01 }) (fun t =>
      t.a == 0xCD && t.p == 0xA4 && t.cycle == 13) = true := by decide +kernel
theorem test_step_ldaIzy_2 :
    nextIs (step { scene 0x0200 [0xB1, 0x10] [(0x0010, 0x00), (0x0011, 0x03), (0x0300,
      0x01)] with y := 0x00 }) (fun t =>
      t.a == 0x01 && t.cycle == 12) = true := by decide +kernel
theorem test_step_staAbx :
    nextIs (step { scene 0x0200 [0x9D, 0x00, 0x03] [] with a := 0x11, x := 0x00 }) (fun t =>
      t.byteAt 0x0300 == some 0x11 && t.cycle == 12) = true := by decide +kernel
theorem test_step_staIzy :
    nextIs (step { scene 0x0200 [0x91, 0x10] [(0x0010, 0x01), (0x0011, 0x03)] with a := 0x22, y := 0xFF }) (fun t =>
      t.byteAt 0x0400 == some 0x22 && t.cycle == 13) = true := by decide +kernel
theorem test_step_staAbs :
    nextIs (step { scene 0x0200 [0x8D, 0x00, 0x08] [] with a := 0x33 }) (fun t =>
      t.byteAt 0x0000 == some 0x33 && t.byteAt 0x0800 == some 0x33 && t.byteAt 0x1000 == some 0x33 &&
      t.byteAt 0x1800 == some 0x33 && t.cycle == 11) = true := by decide +kernel
theorem test_step_stxZpy :
    nextIs (step { scene 0x0200 [0x96, 0x10] [] with x := 0x44, y := 0xF8 }) (fun t =>
      t.byteAt 0x0008 == some 0x44 && t.cycle == 11) = true := by decide +kernel
theorem test_step_styZpx :
    nextIs (step { scene 0x0200 [0x94, 0x10] [] with x := 0x01, y := 0x45 }) (fun t =>
      t.byteAt 0x0011 == some 0x45 && t.cycle == 11) = true := by decide +kernel
theorem test_step_tax :
    nextIs (step { scene 0x0200 [0xAA] [] with a := 0x80 }) (fun t =>
      t.x == 0x80 && t.p == 0xA4 && t.pc == 0x0201 && t.cycle == 9) = true := by decide +kernel
theorem test_step_txs :
    nextIs (step { scene 0x0200 [0x9A] [] with x := 0x00 }) (fun t =>
      t.sp == 0x00 && t.p == 0x24 && t.cycle == 9) = true := by decide +kernel
theorem test_step_tsx :
    nextIs (step { scene 0x0200 [0xBA] [] with sp := 0x00 }) (fun t =>
      t.x == 0x00 && t.p == 0x26 && t.cycle == 9) = true := by decide +kernel
theorem test_step_tya :
    nextIs (step { scene 0x0200 [0x98] [] with a := 0x09, y := 0x00, p := 0xA4 }) (fun t =>
      t.a == 0x00 && t.p == 0x26 && t.cycle == 9) = true := by decide +kernel
theorem test_step_adcImm :
    nextIs (step { scene 0x0200 [0x69, 0x01] [] with a := 0x7F }) (fun t =>
      t.a == 0x80 && t.p == 0xE4 && t.cycle == 9) = true := by decide +kernel
theorem test_step_adcImm_2 :
    nextIs (step { scene 0x0200 [0x69, 0x01] [] with a := 0xFF }) (fun t =>
      t.a == 0x00 && t.p == 0x27 && t.cycle == 9) = true := by decide +kernel
theorem test_step_sbcImm :
    nextIs (step { scene 0x0200 [0xE9, 0x01] [] with a := 0x00, p := 0x25 }) (fun t =>
      t.a == 0xFF && t.p == 0xA4 && t.cycle == 9) = true := by decide +kernel
theorem test_step_sbcImm_2 :
    nextIs (step { scene 0x0200 [0xE9, 0x01] [] with a := 0x80, p := 0x25 }) (fun t =>
      t.a == 0x7F && t.p == 0x65 && t.cycle == 9) = true := by decide +kernel
theorem test_step_andImm :
    nextIs (step { scene 0x0200 [0x29, 0x0F] [] with a := 0xF0, p := 0xA4 }) (fun t =>
      t.a == 0x00 && t.p == 0x26 && t.cycle == 9) = true := by decide +kernel
theorem test_step_oraImm :
    nextIs (step { scene 0x0200 [0x09, 0x80] [] with a := 0x01 }) (fun t =>
      t.a == 0x81 && t.p == 0xA4 && t.cycle == 9) = true := by decide +kernel
theorem test_step_eorImm :
    nextIs (step { scene 0x0200 [0x49, 0xFF] [] with a := 0x0F }) (fun t =>
      t.a == 0xF0 && t.p == 0xA4 && t.cycle == 9) = true := by decide +kernel
theorem test_step_cmpImm :
    nextIs (step { scene 0x0200 [0xC9, 0x10] [] with a := 0x10 }) (fun t =>
      t.p == 0x27 && t.cycle == 9) = true := by decide +kernel
theorem test_step_cmpImm_2 :
    nextIs (step { scene 0x0200 [0xC9, 0x10] [] with a := 0x0F }) (fun t =>
      t.p == 0xA4 && t.cycle == 9) = true := by decide +kernel
theorem test_step_cpxImm :
    nextIs (step { scene 0x0200 [0xE0, 0x00] [] with x := 0x00 }) (fun t =>
      t.p == 0x27 && t.cycle == 9) = true := by decide +kernel
theorem test_step_cpyImm :
    nextIs (step { scene 0x0200 [0xC0, 0x05] [] with y := 0x04, p := 0x25 }) (fun t =>
      t.p == 0xA4 && t.cycle == 9) = true := by decide +kernel
theorem test_step_bitZp :
    nextIs (step { scene 0x0200 [0x24, 0x10] [(0x0010, 0xC0)] with a := 0x01 }) (fun t =>
      t.p == 0xE6 && t.cycle == 10) = true := by decide +kernel
theorem test_step_bitZp_2 :
    nextIs (step { scene 0x0200 [0x24, 0x10] [(0x0010, 0x3F)] with a := 0x00, p := 0xE4 }) (fun t =>
      t.p == 0x26 && t.cycle == 10) = true := by decide +kernel
theorem test_step_incZp :
    nextIs (step (scene 0x0200 [0xE6, 0x10] [(0x0010, 0xFF)])) (fun t =>
      t.p == 0x26 && t.byteAt 0x0010 == some 0x00 && t.cycle == 12) = true := by decide +kernel
theorem test_step_incZpx :
    nextIs (step { scene 0x0200 [0xF6, 0x10] [(0x0011, 0x7F)] with x := 0x01, p := 0x64 }) (fun t =>
      t.p == 0xE4 && t.byteAt 0x0011 == some 0x80 && t.cycle == 13) = true := by decide +kernel
theorem test_step_decAbs :
    nextIs (step (scene 0x0200 [0xCE, 0x00, 0x03] [(0x0300, 0x01)])) (fun t =>
      t.p == 0x26 && t.byteAt 0x0300 == some 0x00 && t.cycle == 13) = true := by decide +kernel
theorem test_step_decAbx :
    nextIs (step { scene 0x0200 [0xDE, 0xFF, 0x02] [(0x0300, 0x00)] with x := 0x01 }) (fun t =>
      t.p == 0xA4 && t.byteAt 0x0300 == some 0xFF && t.cycle == 14) = true := by decide +kernel
theorem test_step_inx :
    nextIs (step { scene 0x0200 [0xE8] [] with x := 0xFF, p := 0xA4 }) (fun t =>
      t.x == 0x00 && t.p == 0x26 && t.cycle == 9) = true := by decide +kernel
theorem test_step_dey :
    nextIs (step { scene 0x0200 [0x88] [] with y := 0x00 }) (fun t =>
      t.y == 0xFF && t.p == 0xA4 && t.cycle == 9) = true := by decide +kernel
theorem test_step_aslAcc :
    nextIs (step { scene 0x0200 [0x0A] [] with a := 0x80 }) (fun t =>
      t.a == 0x00 && t.p == 0x27 && t.cycle == 9) = true := by decide +kernel
theorem test_step_aslAcc_2 :
    nextIs (step { scene 0x0200 [0x0A] [] with a := 0x40, p := 0x25 }) (fun t =>
      t.a == 0x80 && t.p == 0xA4 && t.cycle == 9) = true := by decide +kernel
theorem test_step_lsrAcc :
    nextIs (step { scene 0x0200 [0x4A] [] with a := 0x01, p := 0xA4 }) (fun t =>
      t.a == 0x00 && t.p == 0x27 && t.cycle == 9) = true := by decide +kernel
theorem test_step_rolAcc :
    nextIs (step { scene 0x0200 [0x2A] [] with a := 0x80, p := 0x25 }) (fun t =>
      t.a == 0x01 && t.p == 0x25 && t.cycle == 9) = true := by decide +kernel
theorem test_step_rorAcc :
    nextIs (step { scene 0x0200 [0x6A] [] with a := 0x01, p := 0x25 }) (fun t =>
      t.a == 0x80 && t.p == 0xA5 && t.cycle == 9) = true := by decide +kernel
theorem test_step_rorAcc_2 :
    nextIs (step { scene 0x0200 [0x6A] [] with a := 0x00 }) (fun t =>
      t.a == 0x00 && t.p == 0x26 && t.cycle == 9) = true := by decide +kernel
theorem test_step_aslZp :
    nextIs (step (scene 0x0200 [0x06, 0x10] [(0x0010, 0xC0)])) (fun t =>
      t.p == 0xA5 && t.byteAt 0x0010 == some 0x80 && t.cycle == 12) = true := by decide +kernel
theorem test_step_lsrAbx :
    nextIs (step { scene 0x0200 [0x5E, 0x00, 0x03] [(0x0300, 0x02)] with x := 0x00 }) (fun t =>
      t.p == 0x24 && t.byteAt 0x0300 == some 0x01 && t.cycle == 14) = true := by decide +kernel
theorem test_step_rolZpx :
    nextIs (step { scene 0x0200 [0x36, 0x10] [(0x0000, 0x55)] with x := 0xF0 }) (fun t =>
      t.p == 0xA4 && t.byteAt 0x0000 == some 0xAA && t.cycle == 13) = true := by decide +kernel
theorem test_step_rorAbs :
    nextIs (step { scene 0x0200 [0x6E, 0x00, 0x03] [(0x0300, 0x80)] with p := 0x25 }) (fun t =>
      t.p == 0xA4 && t.byteAt 0x0300 == some 0xC0 && t.cycle == 13) = true := by decide +kernel
theorem test_step_bne :
    nextIs (step (scene 0x0205 [0xD0, 0xFB] [])) (fun t =>
      t.pc == 0x0202 && t.cycle == 10) = true := by decide +kernel
theorem test_step_bne_2 :
    nextIs (step (scene 0x02FF [0xD0, 0x02] [])) (fun t =>
      t.pc == 0x0303 && t.cycle == 10) = true := by decide +kernel
theorem test_step_beq :
    nextIs (step { scene 0x02FD [0xF0, 0x02] [] with p := 0x26 }) (fun t =>
      t.pc == 0x0301 && t.cycle == 11) = true := by decide +kernel
theorem test_step_beq_2 :
    nextIs (step (scene 0x0200 [0xF0, 0x02] [])) (fun t =>
      t.pc == 0x0202 && t.cycle == 9) = true := by decide +kernel
theorem test_step_bcc :
    nextIs (step (scene 0x0200 [0x90, 0x00] [])) (fun t =>
      t.pc == 0x0202 && t.cycle == 10) = true := by decide +kernel
theorem test_step_bpl :
    nextIs (step (scene 0x0200 [0x10, 0xFE] [])) (fun t =>
      t.pc == 0x0200 && t.cycle == 10) = true := by decide +kernel
theorem test_step_bmi :
    nextIs (step { scene 0x0200 [0x30, 0x7F] [] with p := 0xA4 }) (fun t =>
      t.pc == 0x0281 && t.cycle == 10) = true := by decide +kernel
theorem test_step_bvs :
    nextIs (step { scene 0x0200 [0x70, 0x80] [] with p := 0x64 }) (fun t =>
      t.pc == 0x0182 && t.cycle == 11) = true := by decide +kernel
theorem test_step_jmpAbs :
    nextIs (step (scene 0x0200 [0x4C, 0x00, 0x02] [])) (fun t =>
      t.pc == 0x0200 && t.cycle == 10) = true := by decide +kernel
theorem test_step_jmpInd :
    nextIs (step (scene 0x0200 [0x6C, 0x10, 0x03] [(0x0310, 0x78), (0x0311, 0x56)])) (fun t =>
      t.pc == 0x5678 && t.cycle == 12) = true := by decide +kernel
theorem test_step_jmpInd_2 :
    nextIs (step (scene 0x0400 [0x6C, 0xFF, 0x02] [(0x02FF, 0x34), (0x0200, 0x12), (0x0300, 0x56)])) (fun t =>
      t.pc == 0x1234 && t.cycle == 12) = true := by decide +kernel
theorem test_step_jsr :
    nextIs (step (scene 0x0200 [0x20, 0x00, 0x03] [])) (fun t =>
      t.sp == 0xFB && t.pc == 0x0300 && t.byteAt 0x01FD == some 0x02 && t.byteAt 0x01FC == some 0x02 &&
      t.cycle == 13) = true := by decide +kernel
theorem test_step_jsr_2 :
    nextIs (step { scene 0x0200 [0x20, 0x34, 0x12] [] with sp := 0x00 }) (fun t =>
      t.sp == 0xFE && t.pc == 0x1234 && t.byteAt 0x0100 == some 0x02 && t.byteAt 0x01FF == some 0x02 &&
      t.cycle == 13) = true := by decide +kernel
theorem test_step_rts :
    nextIs (step { scene 0x0200 [0x60] [(0x01FC, 0x02), (0x01FD, 0x02)] with sp := 0xFB }) (fun t =>
      t.sp == 0xFD && t.pc == 0x0203 && t.cycle == 13) = true := by decide +kernel
theorem test_step_rts_2 :
    nextIs (step { scene 0x0200 [0x60] [(0x0100, 0xFF), (0x0101, 0xFF)] with sp := 0xFF }) (fun t =>
      t.sp == 0x01 && t.pc == 0x0000 && t.cycle == 13) = true := by decide +kernel
theorem test_step_pha :
    nextIs (step { scene 0x0200 [0x48] [] with a := 0x5A, sp := 0x00 }) (fun t =>
      t.sp == 0xFF && t.byteAt 0x0100 == some 0x5A && t.cycle == 10) = true := by decide +kernel
theorem test_step_pla :
    nextIs (step { scene 0x0200 [0x68] [(0x0100, 0x80)] with sp := 0xFF }) (fun t =>
      t.a == 0x80 && t.sp == 0x00 && t.p == 0xA4 && t.cycle == 11) = true := by decide +kernel
theorem test_step_php :
    nextIs (step (scene 0x0200 [0x08] [])) (fun t =>
      t.sp == 0xFC && t.p == 0x24 && t.byteAt 0x01FD == some 0x34 && t.cycle == 10) = true := by decide +kernel
theorem test_step_php_2 :
    nextIs (step { scene 0x0200 [0x08] [] with p := 0xEF }) (fun t =>
      t.byteAt 0x01FD == some 0xFF && t.cycle == 10) = true := by decide +kernel
theorem test_step_pla_2 :
    nextIs (step { scene 0x0200 [0x68] [(0x01FD, 0x00)] with sp := 0xFC }) (fun t =>
      t.a == 0x00 && t.sp == 0xFD && t.p == 0x26 && t.cycle == 11) = true := by decide +kernel
theorem test_step_plp :
    nextIs (step { scene 0x0200 [0x28] [(0x01FD, 0x34)] with sp := 0xFC }) (fun t =>
      t.p == 0x24 && t.cycle == 11) = true := by decide +kernel
theorem test_step_plp_2 :
    nextIs (step { scene 0x0200 [0x28] [(0x01FD, 0xFF)] with sp := 0xFC }) (fun t =>
      t.p == 0xEF && t.cycle == 11) = true := by decide +kernel
theorem test_step_sed :
    nextIs (step (scene 0x0200 [0xF8] [])) (fun t =>
      t.p == 0x2C && t.cycle == 9) = true := by decide +kernel
theorem test_step_cli :
    nextIs (step (scene 0x0200 [0x58] [])) (fun t =>
      t.p == 0x20 && t.cycle == 9) = true := by decide +kernel
theorem test_step_clv :
    nextIs (step { scene 0x0200 [0xB8] [] with p := 0x64 }) (fun t =>
      t.p == 0x24 && t.cycle == 9) = true := by decide +kernel
theorem test_step_sec :
    nextIs (step (scene 0x0200 [0x38] [])) (fun t =>
      t.p == 0x25 && t.cycle == 9) = true := by decide +kernel
theorem test_step_nop :
    nextIs (step (scene 0x0200 [0xEA] [])) (fun t =>
      t.p == 0x24 && t.cycle == 9) = true := by decide +kernel
theorem test_step_brk :
    nextIs (step (scene 0x0200 [0x00] [(0xFFFE, 0x00), (0xFFFF, 0x90)])) (fun t =>
      t.sp == 0xFA && t.p == 0x24 && t.pc == 0x9000 && t.byteAt 0x01FD == some 0x02 &&
      t.byteAt 0x01FC == some 0x02 && t.byteAt 0x01FB == some 0x34 && t.cycle == 14) = true := by decide +kernel
theorem test_step_brk_2 :
    nextIs (step { scene 0x0200 [0x00] [(0xFFFE, 0x00), (0xFFFF, 0x90)] with sp := 0x01, p := 0xE3 }) (fun t =>
      t.sp == 0xFE && t.p == 0xE7 && t.byteAt 0x0101 == some 0x02 && t.byteAt 0x0100 == some 0x02 &&
      t.byteAt 0x01FF == some 0xF3 && t.cycle == 14) = true := by decide +kernel
theorem test_step_rti :
    nextIs (step { scene 0x0200 [0x40] [(0x01FB, 0x34), (0x01FC, 0x02), (0x01FD, 0x02)] with sp := 0xFA }) (fun t =>
      t.p == 0x24 && t.pc == 0x0202 && t.sp == 0xFD && t.cycle == 13) = true := by decide +kernel
theorem test_step_laxZp :
    nextIs (step (scene 0x0200 [0xA7, 0x10] [(0x0010, 0x80)])) (fun t =>
      t.x == 0x80 && t.p == 0xA4 && t.a == 0x80 && t.cycle == 10) = true := by decide +kernel
theorem test_step_laxIzy :
    nextIs (step { scene 0x0200 [0xB3, 0x10] [(0x0010, 0xF8), (0x0011, 0x02), (0x0308,
      0x00)] with y := 0x10 }) (fun t =>
      t.x == 0x00 && t.p == 0x26 && t.a == 0x00 && t.cycle == 13) = true := by decide +kernel
theorem test_step_saxZp :
    nextIs (step { scene 0x0200 [0x87, 0x10] [] with a := 0xF0, x := 0x3C }) (fun t =>
      t.p == 0x24 && t.byteAt 0x0010 == some 0x30 && t.cycle == 10) = true := by decide +kernel
theorem test_step_saxIzx :
    nextIs (step { scene 0x0200 [0x83, 0x10] [(0x001F, 0x00), (0x0020, 0x03)] with a := 0xFF, x := 0x0F }) (fun t =>
      t.byteAt 0x0300 == some 0x0F && t.cycle == 13) = true := by decide +kernel
theorem test_step_dcpZp :
    nextIs (step { scene 0x0200 [0xC7, 0x10] [(0x0010, 0x11)] with a := 0x10 }) (fun t =>
      t.p == 0x27 && t.byteAt 0x0010 == some 0x10 && t.cycle == 12) = true := by decide +kernel
theorem test_step_dcpAby :
    nextIs (step { scene 0x0200 [0xDB, 0x00, 0x03] [(0x0300, 0x00)] with a := 0xFF, y := 0x00 }) (fun t =>
      t.p == 0x27 && t.byteAt 0x0300 == some 0xFF && t.cycle == 14) = true := by decide +kernel
theorem test_step_isbZp :
    nextIs (step { scene 0x0200 [0xE7, 0x10] [(0x0010, 0x00)] with a := 0x05, p := 0x25 }) (fun t =>
      t.a == 0x04 && t.p == 0x25 && t.byteAt 0x0010 == some 0x01 && t.cycle == 12) = true := by decide +kernel
theorem test_step_isbZp_2 :
    nextIs (step { scene 0x0200 [0xE7, 0x10] [(0x0010, 0xFF)] with a := 0x10 }) (fun t =>
      t.a == 0x0F && t.p == 0x25 && t.byteAt 0x0010 == some 0x00 && t.cycle == 12) = true := by decide +kernel
theorem test_step_sloZp :
    nextIs (step { scene 0x0200 [0x07, 0x10] [(0x0010, 0x81)] with a := 0x01 }) (fun t =>
      t.a == 0x03 && t.p == 0x25 && t.byteAt 0x0010 == some 0x02 && t.cycle == 12) = true := by decide +kernel
theorem test_step_sloIzy :
    nextIs (step { scene 0x0200 [0x13, 0x10] [(0x0010, 0xFF), (0x0011, 0x02), (0x0300, 0x40)] with
      a := 0x00, y := 0x01 }) (fun t =>
      t.a == 0x80 && t.p == 0xA4 && t.byteAt 0x0300 == some 0x80 && t.cycle == 15) = true := by decide +kernel
theorem test_step_rlaZp :
    nextIs (step { scene 0x0200 [0x27, 0x10] [(0x0010, 0x80)] with a := 0xFF, p := 0x25 }) (fun t =>
      t.a == 0x01 && t.p == 0x25 && t.byteAt 0x0010 == some 0x01 && t.cycle == 12) = true := by decide +kernel
theorem test_step_rlaAbx :
    nextIs (step { scene 0x0200 [0x3F, 0x00, 0x03] [(0x0301, 0x87)] with a := 0x0F, x := 0x01 }) (fun t =>
      t.a == 0x0E && t.p == 0x25 && t.byteAt 0x0301 == some 0x0E && t.cycle == 14) = true := by decide +kernel
theorem test_step_sreZp :
    nextIs (step { scene 0x0200 [0x47, 0x10] [(0x0010, 0x03)] with a := 0x01 }) (fun t =>
      t.a == 0x00 && t.p == 0x27 && t.byteAt 0x0010 == some 0x01 && t.cycle == 12) = true := by decide +kernel
theorem test_step_sreZpx :
    nextIs (step { scene 0x0200 [0x57, 0x10] [(0x0011, 0xFF)] with a := 0xFF, x := 0x01 }) (fun t =>
      t.a == 0x80 && t.p == 0xA5 && t.byteAt 0x0011 == some 0x7F && t.cycle == 13) = true := by decide +kernel
theorem test_step_rraZp :
    nextIs (step { scene 0x0200 [0x67, 0x10] [(0x0010, 0x02)] with a := 0x10, p := 0x25 }) (fun t =>
      t.a == 0x91 && t.p == 0xA4 && t.byteAt 0x0010 == some 0x81 && t.cycle == 12) = true := by decide +kernel
theorem test_step_rraZp_2 :
    nextIs (step { scene 0x0200 [0x67, 0x10] [(0x0010, 0x01)] with a := 0x7F }) (fun t =>
      t.a == 0x80 && t.p == 0xE4 && t.byteAt 0x0010 == some 0x00 && t.cycle == 12) = true := by decide +kernel
theorem test_step_nop1A :
    nextIs (step (scene 0x0200 [0x1A] [])) (fun t =>
      t.pc == 0x0201 && t.cycle == 9) = true := by decide +kernel
theorem test_step_nopImm80 :
    nextIs (step (scene 0x0200 [0x80, 0xFF] [])) (fun t =>
      t.pc == 0x0202 && t.cycle == 9) = true := by decide +kernel
theorem test_step_nopZpx14 :
    nextIs (step { scene 0x0200 [0x14, 0x10] [] with x := 0x01 }) (fun t =>
      t.pc == 0x0202 && t.cycle == 11) = true := by decide +kernel
theorem test_step_nopAbs0C :
    nextIs (step (scene 0x0200 [0x0C, 0x00, 0x03] [])) (fun t =>
      t.pc == 0x0203 && t.cycle == 11) = true := by decide +kernel
theorem test_step_nopAbx1C :
    nextIs (step { scene 0x0200 [0x1C, 0xFF, 0x02] [] with x := 0x01 }) (fun t =>
      t.pc == 0x0203 && t.cycle == 12) = true := by decide +kernel
theorem test_step_sbcImmEB :
    nextIs (step { scene 0x0200 [0xEB, 0x01] [] with a := 0x00, p := 0x25 }) (fun t =>
      t.a == 0xFF && t.p == 0xA4 && t.cycle == 9) = true := by decide +kernel
theorem test_step_unk02 :
    nextIs (step (scene 0x0200 [0x02] [])) (fun t =>
      t.pc == 0x0201 && t.cycle == 8) = true := by decide +kernel
theorem test_step_unk9C :
    nextIs (step { scene 0x0200 [0x9C, 0x00, 0x03] [] with y := 0x05 }) (fun t =>
      t.pc == 0x0201 && t.cycle == 8) = true := by decide +kernel

/-! ### The devices, values from spec/95_test_vectors.md, L2.7 to L2.11 and L3.4 -/

/-- The fresh picture unit with the empty cartridge. -/
def ppu0 : PpuSide := { ppu := {}, cart := Mapper.empty }

/-- Writes to the picture unit's ports, in order. -/
def ports (g : PpuSide) (ws : List (BitVec 3 × Byte)) : PpuSide := ws.foldl (fun h w => ppuPortWrite h w.1 w.2) g

theorem test_scroll_writes :
    let g := ports ppu0 [(0, 0x03), (5, 0x7D)]
    let h := ports g [(5, 0x5E)]
    (g.ppu.t, g.ppu.x, g.ppu.w) = (0x0C0F, 5, true) ∧ (h.ppu.t, h.ppu.x, h.ppu.w) = (0x6D6F, 5, false) := by decide
theorem test_addr_writes :
    let g := ports ppu0 [(0, 0x03), (5, 0x7D), (5, 0x5E), (6, 0x3D)]
    let h := ports g [(6, 0xF0)]
    (g.ppu.t, g.ppu.v, g.ppu.w) = (0x3D6F, 0x0000, true) ∧ (h.ppu.t, h.ppu.v, h.ppu.w) = (0x3DF0, 0x3DF0, false) := by
  decide
theorem test_data_write_increments :
    let g := ports ppu0 [(0, 0x04), (6, 0x20), (6, 0x00), (7, 0xAA)]
    g.ppu.vram.read 0 = 0xAA ∧ g.ppu.v = 0x2020 := by decide
theorem test_data_v_wraps : (ppuPortRead { ppu0 with ppu := { v := 0x7FFF } } 7).2.ppu.v = 0x0000 := by decide
theorem test_data_reads_are_buffered :
    let g := ports ppu0 [(6, 0x20), (6, 0x00), (7, 0x55), (7, 0x66), (6, 0x20), (6, 0x00)]
    let a := ppuPortRead g 7
    let b := ppuPortRead a.2 7
    let c := ppuPortRead b.2 7
    [a.1, b.1, c.1] = [0x00, 0x55, 0x66] ∧ c.2.ppu.v = 0x2003 := by decide
theorem test_palette_alias :
    let g := ports ppu0 [(6, 0x3F), (6, 0x00), (7, 0x2A), (6, 0x3F), (6, 0x10)]
    (ppuPortRead g 7).1 = 0x2A ∧ g.ppu.pal.read 0 = 0x2A := by decide
theorem test_nametable_banks :
    ([0x2000, 0x2400, 0x2800, 0x2C00].map fun a => ntIndex .horizontal a) = [0, 0, 0x400, 0x400] ∧
      ([0x2000, 0x2400, 0x2800, 0x2C00].map fun a => ntIndex .vertical a) = [0, 0x400, 0, 0x400] ∧
      ntIndex .horizontal 0x3123 = ntIndex .horizontal 0x2123 := by decide
theorem test_nmi_edge :
    let g := ports { ppu0 with ppu := { vblank := true } } [(0, 0x80)]
    let again := ports { g with ppu := { g.ppu with pendingNmi := false } } [(0, 0x80)]
    let toggled := ports again [(0, 0x00), (0, 0x80)]
    (g.ppu.pendingNmi, again.ppu.pendingNmi, toggled.ppu.pendingNmi) = (true, false, true) := by decide
theorem test_status_read :
    let r := ppuPortRead { ppu0 with ppu := { vblank := true } } 2
    r.1 = 0x80 ∧ (ports r.2 [(0, 0x80)]).ppu.pendingNmi = false := by decide
theorem test_illegal_reads :
    ([0x4014, 0x2000, 0x5000].map fun a => (State.reset.busRead a).1) = [0, 0, 0] ∧
      (State.reset.busRead 0x5000).2.log = [.illegalRead 0x5000] ∧
      (State.reset.busRead 0x2000).2.log = [.illegalRead 0x2000] := by decide +kernel
theorem test_vblank_onset :
    let g := ppuTick { ppu0 with ppu := { scanline := 241, dot := 1, ctrl := 0x80 } }
    (g.ppu.vblank, g.ppu.pendingNmi, g.ppu.dot) = (true, true, 2) := by decide
theorem test_odd_frame_skip :
    let g := ppuTick { ppu0 with ppu := { scanline := -1, dot := 339, oddFrame := true, mask := 0x08 } }
    (g.ppu.scanline, g.ppu.dot) = (0, 0) := by decide
theorem test_pixel_is_emitted :
    (ppuTick { ppu0 with
      ppu := { scanline := 1, dot := 9, mask := 0x0A, bgPatLo := 0x8000, bgPatHi := 0x8000, pal := [(3, 0x21)] } }).ppu.fb = [(256 + 8, some 0x21)] := by decide
theorem test_controller_scenario :
    let u := padStrobe (padStrobe (padInput (padInput {} 0 true) 3 true) 1) 0
    let reads := fun n => (padRead ((fun p => (padRead p false).2)^[n] u) false).1
    ([0, 1, 2, 3, 4, 5, 6, 7, 8].map reads) = [1, 0, 0, 1, 0, 0, 0, 0, 1] := by decide
theorem test_first_samples :
    (((fun u => apuTick u)^[41] {}).widx, ((fun u => apuTick u)^[81] {}).widx, ((fun u => apuTick u)^[82] {}).widx) =
      (1, 1, 2) := by decide +kernel
theorem test_pulse_position :
    let u := [((0x4015 : Word), (0x01 : Byte)), (0x4000, 0xB8), (0x4002, 0x08), (0x4003, 0x00)].foldl
      (fun u w => apuWrite u w.1 w.2) ({} : Apu)
    ([1, 2, 19, 20].map fun n => ((fun u => apuTick u)^[n] u).p1.pos) = [0, 1, 1, 2] ∧
      pulseOut ((fun u => apuTick u)^[2] u).p1 = 8 := by decide +kernel
theorem test_nmi_service :
    nextIs (step { (poke (scene 0x0202 [] []) [(0xFFFA, 0x00), (0xFFFB, 0x91)]) with ppu := { pendingNmi := true } })
      (fun t => t.pc == 0x9100 && t.sp == 0xFA && t.byteAt 0x01FD == some 0x02 && t.byteAt 0x01FC == some 0x02 &&
        t.byteAt 0x01FB == some 0x24 && t.p == 0x24 && t.cycle == 14 && !t.ppu.pendingNmi) = true := by decide +kernel
theorem test_dma_parity : dmaAligns { State.reset with cycle := 19 } = true ∧
    dmaAligns { State.reset with cycle := 22 } = false ∧ dmaCycles 19 = 514 ∧ dmaCycles 22 = 513 := by decide
theorem test_dma_bytes :
    let t := dmaBytes 0x02 3 0 { load State.reset 0x0200 [0x03, 0x0A, 0x11] with cycle := 20 }
    (t.ppu.oam.read 0, t.ppu.oam.read 1, t.ppu.oam.read 2, t.ppu.oamAddr, t.cycle) = (0x03, 0x0A, 0x11, 3, 26) := by
  decide +kernel

/-! ### Witnesses: concrete states and operands that meet each statement's hypotheses, clause by clause -/

/-- The byte a write-type instruction finds at its operand, as the statements on read-modify-writes name it. -/
def found (o : Operand) (s : State) : Byte := ((effAddr .writeType o s).2.read (effAddr .writeType o s).1).1

/-- After reset, with $81 at $0010. -/
def s10 : State := State.reset.place 0x0010 0x81

theorem witness_EncodeThenDecode : (Instr.ldaAbs 0x1234).wellFormed = true := by decide
theorem witness_DecodeThenEncode : decode [0xA9, 0x10, 0xEA] = .ok (.ldaImm 0x10, [0xEA]) := rfl
theorem witness_EveryByteStarts : (Instr.unk02, (0x02 : Byte)) ∈ unknownForms ∧ (Instr.unkF2, (0xF2 : Byte)) ∈ unknownForms :=
  by decide
theorem witness_StepRuns_one_byte : State.reset.ppu.pendingNmi = false ∧
    decode [(scene 0x0200 [0xEA] []).read 0x0200 |>.1] = .ok (.nop, []) := ⟨by decide, rfl⟩
theorem witness_StepRuns_two_bytes :
    let s := scene 0xFFFF [0xA9] [(0x0000, 0x34)]
    s.ppu.pendingNmi = false ∧ decode [(s.read s.pc).1, ((s.read s.pc).2.read (s.pc + 1)).1] = .ok (.ldaImm 0x34, []) :=
  ⟨by decide +kernel, rfl⟩
theorem witness_StepRuns_three_bytes :
    let s := scene 0x0200 [0xAD, 0x34, 0x12] []
    let b1 := (s.read s.pc).2.read (s.pc + 1)
    decode [(s.read s.pc).1, b1.1, (b1.2.read (s.pc + 2)).1] = .ok (.ldaAbs 0x1234, []) := rfl
theorem witness_StepRuns_plain : ∀ k b, ([0xAD, 0x34, 0x12] : List Byte)[k]? = some b →
    (scene 0x0200 [0xAD, 0x34, 0x12] []).byteAt (0x0200 + BitVec.ofNat 16 k) = some b := by
  rintro (_ | _ | _ | k) b h <;> simp at h <;> subst h <;> decide +kernel
theorem witness_StepServes : ({ State.reset with ppu := { pendingNmi := true } } : State).ppu.pendingNmi = true := rfl
theorem witness_Wf : State.reset.Wf ∧ Mapper.empty.wf = true := by decide
theorem witness_RamInit : RamInitWf {} ∧
    RamInitWf { ram := [(0, 0xFF), (2047, 0x01)], vram := [(2047, 0x24)], pal := [(31, 0x0F)], oam := [(255, 0xFF)] } := by
  decide
theorem witness_next_states : ∃ t, step State.reset = .next t := ⟨_, rfl⟩
theorem witness_every_move : ∀ m ∈ [Move.step, .reset, .setPc 0xFFFF, .sendInput 16 true, .drainAudio 0,
    .scheduleAudio [1, 0], .takeFrame], ∃ t, move m State.reset = .next t := by
  intro m h; simp at h; obtain rfl | rfl | rfl | rfl | rfl | rfl | rfl := h <;> exact ⟨_, rfl⟩
/-- `send_input` at the ends of its two ranges, and an index of no button (R350). -/
theorem witness_SendInput :
    ([7, 8, 15, 16].map fun k => ((sendInput State.reset k true).pads.buttons0, (sendInput State.reset k true).pads.buttons1)) =
      [(0x80, 0x00), (0x00, 0x01), (0x00, 0x80), (0x00, 0x00)] := by decide
/-- `step_frame` with the flag set makes no step; with it clear and no step allowed it answers none (R349). -/
theorem witness_StepFrame :
    let ready : State := { State.reset with ppu := { frameReady := true, scanline := 240 } }
    (∃ u, step State.reset = .next u) ∧ State.reset.ppu.frameReady = false ∧ ready.ppu.frameReady = true ∧
      stepFrame 0 ready = some ([], { ready with ppu := { scanline := 240 } }) ∧ stepFrame 0 State.reset = none :=
  ⟨⟨_, rfl⟩, by decide⟩
theorem witness_OnlyTheFlagWriters : ∃ t, exec (.staZp 0x10) State.reset = .next t ∧ (Instr.staZp 0x10).mnemonic = .sta :=
  ⟨_, rfl, rfl⟩
theorem witness_OnlyTheRegisterWriters : ∃ t, exec (.aslZp 0x10) State.reset = .next t ∧
    (Instr.aslZp 0x10).mnemonic = .asl ∧ Instr.aslZp 0x10 ∉ [Instr.aslAcc, .lsrAcc, .rolAcc, .rorAcc] :=
  ⟨_, rfl, rfl, by simp⟩
/-- Reset meets both clauses of the time statement, and so does a machine that a step has moved. -/
theorem witness_ClockedSinceReset : State.reset.ClockedSinceReset ∧ Move.step ≠ .reset ∧
    ∃ t, move .step State.reset = .next t :=
  ⟨⟨Config.ramInit, Mapper.empty, 0, rfl, .done ⟨rfl, rfl, rfl⟩⟩, by decide, _, rfl⟩
/-- One cycle: three dots, one APU tick, one count (R33, R381). -/
theorem test_one_cycle : (State.reset.tick.ppu.dot, State.reset.tick.apu.acc, State.reset.tick.cycle) = (3, 100, 8) ∧
    ((State.ticks 3 State.reset).ppu.dot, (State.ticks 3 State.reset).apu.parity) = (9, true) := by decide
theorem witness_AudioInStep : State.reset.AudioInStep ∧
    nextIs (step State.reset) (fun t => decide (7 ≤ t.cycle ∧ t.apu.acc = 100 * (t.cycle - 7) % 4058)) = true := by
  refine ⟨⟨by decide, by decide, by decide⟩, by decide +kernel⟩
theorem witness_HostView : State.reset.withoutHostView = ({ State.reset with log := [.illegalRead 0] } : State).withoutHostView ∧
    ∃ t t', step State.reset = .next t ∧ step { State.reset with log := [.illegalRead 0] } = .next t' :=
  ⟨rfl, _, _, rfl, rfl⟩
theorem witness_EffectiveAddresses_read : (∀ b, Operand.zp 0x10 ≠ .imm b) ∧ (readOp (.zp 0x10) s10).1 = 0x81 :=
  ⟨fun b => by simp, by decide +kernel⟩
theorem witness_EffectiveAddresses_cross : pageCross 0x02FF 0x01 = true ∧ pageCross 0x02FE 0x01 = false ∧
    pageCross 0xFFFF 0x01 = true := by decide
theorem witness_BusCycles : State.reset.byteAt 0x0000 = some 0 ∧ State.reset.byteAt 0x1FFF = some 0 ∧
    State.reset.byteAt 0x2000 = none ∧ State.reset.byteAt 0x5FFF = none ∧ State.reset.byteAt 0x6000 = some 0 ∧
    State.reset.byteAt 0x7FFF = some 0 ∧ State.reset.byteAt 0x8000 = some 0 ∧ State.reset.byteAt 0xFFFF = some 0 ∧
    ({ State.reset with cart := .custom [] } : State).byteAt 0x6000 = none ∧ ∃ f, State.reset.cart = .flat32 f :=
  ⟨by decide, by decide, by decide, by decide, by decide, by decide, by decide, by decide, by decide, _, rfl⟩
theorem witness_BusCycles_ports : ((0x2000 : Word) ≤ 0x3FFF ∧ (0x3FFF : Word).toNat % 8 = 7 ∧ (0x2001 : Word).toNat % 8 = 1) ∧
    (0x4013 : Word) ≤ 0x4013 ∧ (0x6000 : Word) ≤ 0xFFFF ∧
    (State.reset.read 0x3FF9).2.log = [.illegalRead 0x2001] ∧ (State.reset.write 0x3FF9 0x1E).ppu.mask = 0x1E := by
  decide +kernel
theorem witness_BusCycles_ranges : regionOf 0x4000 = .apuChannel ∧ regionOf 0x4014 = .dmaPort ∧
    regionOf 0x4018 = .unused ∧ regionOf 0x5FFF = .unused ∧ regionOf 0x8000 = .cartridge := by decide
theorem witness_WorkRamMirrors : (0x0000 : Word) ≤ 0x1FFF ∧ (0x1800 : Word) ≤ 0x1FFF ∧
    (0x0000 : Word).toNat % 2048 = (0x1800 : Word).toNat % 2048 ∧ (0x1FFF : Word).toNat % 2048 ≠ 0 := by decide
theorem witness_StackWraps : ({ State.reset with sp := 0x00 } : State).sp = 0x00 ∧
    ({ State.reset with sp := 0xFF } : State).sp = 0xFF := by decide
theorem witness_Loads : ldaForm (.izy 0xFF) = some (.ldaIzy 0xFF) ∧ ldxForm (.zpy 0xFF) = some (.ldxZpy 0xFF) ∧
    ldyForm (.abx 0xFFFF) = some (.ldyAbx 0xFFFF) := ⟨rfl, rfl, rfl⟩
theorem witness_Stores : staForm (.abs 0x4014) = some (.staAbs 0x4014) ∧ stxForm (.zpy 0x10) = some (.stxZpy 0x10) ∧
    styForm (.zpx 0xFF) = some (.styZpx 0xFF) := ⟨rfl, rfl, rfl⟩
theorem witness_AddAndSubtract : adcForm (.imm 0x80) = some (.adcImm 0x80) ∧ sbcForm (.imm 0x80) = some (.sbcImm 0x80) ∧
    (readOp (.imm 0x80) State.reset).1 = 0x80 ∧ (0x7F : Byte) = ~~~(readOp (.imm 0x80) State.reset).1 :=
  ⟨rfl, rfl, rfl, by decide⟩
theorem witness_Logic : andForm (.zp 0x10) = some (.andZp 0x10) ∧ oraForm (.zp 0x10) = some (.oraZp 0x10) ∧
    eorForm (.zp 0x10) = some (.eorZp 0x10) ∧ (0x81 : Byte) = s10.a ||| (readOp (.zp 0x10) s10).1 ∧
    (0x00 : Byte) = s10.a &&& (readOp (.zp 0x10) s10).1 ∧ (0x81 : Byte) = s10.a ^^^ (readOp (.zp 0x10) s10).1 ∧
    bitForm (.abs 0x2002) = some (.bitAbs 0x2002) :=
  ⟨rfl, rfl, rfl, by decide +kernel, by decide +kernel, by decide +kernel, rfl⟩
theorem witness_Compares : cmpForm (.aby 0x02FF) = some (.cmpAby 0x02FF) ∧ cpxForm (.imm 0xFF) = some (.cpxImm 0xFF) ∧
    cpyForm (.zp 0x00) = some (.cpyZp 0x00) := ⟨rfl, rfl, rfl⟩
theorem witness_IncDecMemory : incForm (.zp 0x10) = some (.incZp 0x10) ∧ decForm (.zp 0x10) = some (.decZp 0x10) ∧
    (0x82 : Byte).toNat = ((found (.zp 0x10) s10).toNat + 1) % 256 ∧
    (0x80 : Byte).toNat = ((found (.zp 0x10) s10).toNat + 255) % 256 ∧
    (0xFF : Byte).toNat = ((found (.zp 0x10) State.reset).toNat + 255) % 256 :=
  ⟨rfl, rfl, by decide +kernel, by decide +kernel, by decide +kernel⟩
theorem witness_Shifts : aslForm (.zp 0x10) = some (.aslZp 0x10) ∧ lsrForm (.zp 0x10) = some (.lsrZp 0x10) ∧
    rolForm (.zp 0x10) = some (.rolZp 0x10) ∧ rorForm (.zp 0x10) = some (.rorZp 0x10) ∧
    (0x02 : Byte).toNat = (found (.zp 0x10) s10).toNat * 2 % 256 + (s10.p.getLsbD flagC).toNat ∧
    (0x40 : Byte).toNat = (found (.zp 0x10) s10).toNat / 2 + 128 * (s10.p.getLsbD flagC).toNat ∧
    (found (.zp 0x10) s10).toNat / 128 = 1 ∧ (found (.zp 0x10) s10).toNat % 2 = 1 :=
  ⟨rfl, rfl, rfl, rfl, by decide +kernel, by decide +kernel, by decide +kernel, by decide +kernel⟩
theorem witness_Jumps : (hiByte 0x0200 = hiByte 0x02FF ∧ (loByte 0x0200).toNat = ((loByte 0x02FF).toNat + 1) % 256) ∧
    hiByte 0x0311 = hiByte 0x0310 ∧ (loByte 0x0311).toNat = ((loByte 0x0310).toNat + 1) % 256 := by decide
theorem witness_stack_bytes :
    let s := poke { State.reset with sp := 0xFE } [(0x01FF, 0x34), (0x0100, 0x12), (0x0101, 0x56)]
    s.byteAt (stackAddr (s.sp + 1)) = some 0x34 ∧ s.byteAt (stackAddr (s.sp + 2)) = some 0x12 ∧
      s.byteAt (stackAddr (s.sp + 3)) = some 0x56 := by decide
theorem witness_ReturnAfterCall : ∃ t r, exec (.jsr 0x0300) State.reset = .next t ∧ exec .rts t = .next r :=
  ⟨_, _, rfl, rfl⟩
theorem witness_Branches : State.reset.p.getLsbD flagC = false ∧ State.reset.p.getLsbD flagC ≠ true ∧
    ∀ b, (Instr.bcs b, (0xB0 : Byte), flagC, true) ∈ [(Instr.bcc b, (0x90 : Byte), flagC, false),
      (.bcs b, 0xB0, flagC, true)] := ⟨by decide, by decide, fun b => by simp⟩
theorem witness_Flags : (Instr.sed, (0xF8 : Byte), flagD, true) ∈ [(Instr.cld, (0xD8 : Byte), flagD, false),
    (.sed, 0xF8, flagD, true)] := by simp
theorem witness_Push : (Instr.pha = .pha ∧ (0x48 : Byte) = 0x48 ∧ State.reset.a = 0) ∧ State.reset.p ||| 0x30 = 0x34 := by
  decide
theorem witness_Nops : Instr.nopFA ∈ impliedNops ∧ Instr.nopAbs0C 0x2002 ∈ nopForms (.abs 0x2002) ∧
    Instr.nopImm80 0xFF ∈ nopForms (.imm 0xFF) := by decide
theorem witness_ReturnUndoes : StatusWf State.reset.p ∧ (∃ t r, exec .brk State.reset = .next t ∧ exec .rti t = .next r) ∧
    ∃ t r, step { State.reset with ppu := { pendingNmi := true } } = .next t ∧ exec .rti t = .next r :=
  ⟨by decide, ⟨_, _, rfl, rfl⟩, _, _, rfl, rfl⟩
theorem witness_Undocumented : laxForm (.zp 0x10) = some (.laxZp 0x10) ∧ saxForm (.izx 0x10) = some (.saxIzx 0x10) ∧
    dcpForm (.zp 0x10) = some (.dcpZp 0x10) ∧ isbForm (.zp 0x10) = some (.isbZp 0x10) ∧
    sloForm (.zp 0x10) = some (.sloZp 0x10) ∧ rlaForm (.zp 0x10) = some (.rlaZp 0x10) ∧
    sreForm (.zp 0x10) = some (.sreZp 0x10) ∧ rraForm (.zp 0x10) = some (.rraZp 0x10) :=
  ⟨rfl, rfl, rfl, rfl, rfl, rfl, rfl, rfl⟩
theorem witness_Undocumented_bytes : (0x80 : Byte) = found (.zp 0x10) s10 - 1 ∧ (0x82 : Byte) = found (.zp 0x10) s10 + 1 ∧
    (0x02 : Byte) = found (.zp 0x10) s10 <<< 1 ∧ (0x40 : Byte) = found (.zp 0x10) s10 >>> 1 ∧
    (0x02 : Byte).toNat = (found (.zp 0x10) s10).toNat * 2 % 256 + (s10.p.getLsbD flagC).toNat ∧
    (0x40 : Byte).toNat = (found (.zp 0x10) s10).toNat / 2 + 128 * (s10.p.getLsbD flagC).toNat :=
  ⟨by decide +kernel, by decide +kernel, by decide +kernel, by decide +kernel, by decide +kernel, by decide +kernel⟩
theorem witness_OamDma : (∀ k, k < 256 → State.reset.byteAt (wordOf (BitVec.ofNat 8 k) 0x02) = some 0) ∧
    State.reset.ppu.rendering = false ∧ ∃ f, State.reset.cart = .flat32 f := ⟨by decide +kernel, by decide, _, rfl⟩
theorem witness_ports : ((0x2002 : Word).toNat % 8 = 2 ∧ (0x3FFA : Word).toNat % 8 = 2 ∧ (0x3FFA : Word) ≤ 0x3FFF) ∧
    (0x2000 : Word).toNat % 8 = 0 ∧ (0x3FF8 : Word).toNat % 8 = 0 := by decide
theorem witness_ScrollPairs : ppu0.ppu.w = false := rfl
theorem witness_DataPort : (vAddr { v := 0x3EFF }).toNat < 0x3F00 ∧ 0x3F00 ≤ (vAddr { v := 0x7F00 }).toNat := by decide
theorem witness_VblankEvents :
    let at_ := fun (s : Int) (d : Nat) => (ppuTick { ppu0 with ppu := { scanline := s, dot := d, ctrl := 0x80 } }).ppu
    ((at_ 241 1).vblank, (at_ 241 1).pendingNmi, (at_ 241 0).vblank, (at_ 240 0).frameReady, (at_ 240 1).frameReady) =
      (true, true, false, true, false) := by decide
theorem witness_flags_clear :
    (ppuTick { ppu0 with ppu := { scanline := -1, dot := 1, vblank := true, sprite0Hit := true } }).ppu.sprite0Hit =
      false := by decide
/-- The last dot of a line, of the frame, and of the pre-render line of an odd frame with rendering enabled (R263). -/
theorem witness_DotPosition :
    let next := fun (s : Int) (d : Nat) (odd : Bool) =>
      let q := (ppuTick { ppu0 with ppu := { scanline := s, dot := d, oddFrame := odd, mask := 0x08 } }).ppu
      (q.scanline, q.dot, q.oddFrame)
    [next 0 339 true, next 0 340 true, next 260 340 true, next (-1) 339 true, next (-1) 339 false, next (-1) 340 true] =
      [(0, 340, true), (1, 0, true), (-1, 0, false), (0, 0, true), (-1, 340, false), (0, 0, true)] := by decide
theorem witness_FrameLength : ({ scanline := -1, dot := 0 } : Ppu).scanline = -1 ∧
    ({ scanline := -1, dot := 0 } : Ppu).dot = 0 := by decide
theorem witness_DarkDot : ppu0.ppu.mask.getLsbD 3 = false ∧ ppu0.ppu.mask.getLsbD 4 = false ∧
    (240 : Int) ≤ ({ scanline := 240, mask := 0x1E } : Ppu).scanline := by decide
theorem witness_Mirrors : ((0x3F00 : BitVec 14) ≤ 0x3FFF ∧ (0x2000 : BitVec 14) ≤ 0x2000 ∧ (0x3EFF : BitVec 14) < 0x3F00) ∧
    ppu0.cart.mirroring ≠ .fourScreen := by decide
/-- Below $2000 and, with four screens, below $3F00 the cartridge holds the byte (R270, R272, R346). -/
theorem witness_CartridgeMemory :
    let g : PpuSide := { ppu := {}, cart := .flat32 { prg := [], wram := [], chr := [], mir := .fourScreen } }
    g.cart.mirroring = .fourScreen ∧ (0x1FFF : BitVec 14) < 0x2000 ∧
      (ppuMemRead (ppuMemWrite g 0x1FFF 0x5A) 0x1FFF).1 = 0x5A ∧ (ppuMemRead (ppuMemWrite g 0x3000 0x5A) 0x2000).1 = 0x5A := by
  decide +kernel
/-- A rendering dot of each kind: a fetch at the last dot of a tile, the row's end, the two copies and the load of the
last sprite slot; at dot 256 coarse X and fine Y move, at dot 257 and at (-1, 304) `v` comes from `t`. -/
theorem witness_RenderingDot :
    let at_ := fun (s : Int) (d : Nat) => ({ scanline := s, dot := d, mask := 0x08, v := 0x0020, t := 0x7FFF } : Ppu)
    let v := fun (s : Int) (d : Nat) => (ppuTick { ppu0 with ppu := at_ s d }).ppu.v
    (at_ (-1) 304).rendering = true ∧ (at_ 239 320).rendering = true ∧ (at_ 239 320).spr.length = 8 ∧ 264 + 8 * 7 = 320 ∧
      ([(0, 8), (0, 9), (239, 256), (0, 257), (-1, 304), (-1, 305)].map fun p => v p.1 p.2) =
        [0x0021, 0x0020, 0x1021, 0x043F, 0x7BE0, 0x0020] := by decide
/-- Unit 7 at dot 320: loaded, flipped, from a sprite of tile 1 in 8x8 mode; made invalid when its slot is empty. -/
theorem witness_SpriteLoad :
    let g : PpuSide := { ppu := { scanline := 10, dot := 320, mask := 0x10 }
                         cart := .flat32 { prg := [], wram := [], chr := [(16, 0x80), (24, 0x01)], mir := .horizontal } }
    let slots := (List.range 8).map fun n => oamEntry [(0, 10), (1, 1), (2, 0x40), (3, 5)] (if n = 7 then 0 else 1)
    let q := (ppuTick { g with ppu := { g.ppu with sec := slots } }).ppu
    ((q.spr[7]?.map fun un => (un.lo, un.hi, un.xcnt, un.valid)) = some (0x01, 0x80, 5, true)) ∧
      ((ppuTick g).ppu.spr[7]?.map fun un => un.valid) = some false := by decide +kernel
/-- The overflow flag survives a line with one sprite. -/
theorem witness_OverflowIsKept : (spriteEvaluate { scanline := 10, spriteOverflow := true }).spriteOverflow = true := by
  decide +kernel
/-- Nine sprites on scanline 10: the ninth is left out and sets the overflow flag. -/
theorem witness_SpriteEvaluation :
    let oam := (List.range 9).foldl (fun m n => Memory.write m (4 * n) 10) ((List.range 64).foldl
      (fun m n => Memory.write m (4 * n) 0xFF) [])
    let q := spriteEvaluate { scanline := 10, oam := oam }
    q.sec.length = 8 ∧ q.spriteOverflow = true ∧ (q.sec.map fun e => e.id.toNat) = [0, 1, 2, 3, 4, 5, 6, 7] ∧
      (spriteEvaluate { scanline := -1, oam := oam }).sec = [] := by decide +kernel
theorem witness_OnePixel : ({ scanline := 0, dot := 256, mask := 0x08 } : Ppu).rendering = true ∧ 255 < 256 := by decide
/-- The pixel of column 7 and of column 8, each mask bit and the priority bit deciding: palette entries 0, 5 = `4 * 1 + 1`
for the background, 26 = `16 + 4 * 2 + 2` for the sprite (R271, R279, R282, R283). -/
theorem witness_OnePixel_layers :
    let px := fun (d : Nat) (m attr : Byte) => sparseGet none (ppuTick { ppu0 with
      ppu := { scanline := 0, dot := d, mask := m, x := 7, bgPatLo := 0x0100, bgAttrLo := 0x01, bgPatHi := 0xFEFF,
               pal := [(0, 0x30), (5, 0x15), (26, 0x2A)],
               spr := [{ lo := 0xFF, attr := 0x03, xcnt := 1, valid := true }, { hi := 0x80, attr := attr, valid := true }] }
      }).ppu.fb (d - 1)
    [px 8 0x18 0x02, px 9 0x18 0x02, px 9 0x18 0x22, px 8 0x1C 0x22, px 8 0x1A 0x02, px 9 0x19 0x02] =
      [some 0x30, some 0x2A, some 0x15, some 0x2A, some 0x15, some 0x20] := by decide
/-- A hit needs both left-edge masks up to dot 8, and the first opaque unit to be sprite 0's. -/
theorem witness_SpriteZeroHit_masks :
    let hit := fun (d : Nat) (m : Byte) (k : BitVec 6) => (ppuTick { ppu0 with
      ppu := { scanline := 50, dot := d, mask := m, bgPatLo := 0xFFFF,
               spr := [{ lo := 0xFF, valid := true, id := k }, { lo := 0xFF, valid := true }] } }).ppu.sprite0Hit
    [hit 8 0x1E 0, hit 8 0x18 0, hit 8 0x1C 0, hit 9 0x18 0, hit 9 0x18 1, hit 9 0x10 0] =
      [true, false, false, true, false, false] := by decide
/-- A hit at pixel 1, dot 2, and at pixel 254, dot 255; none at pixels 0 and 255. -/
theorem witness_SpriteZeroHit :
    let hit := fun d => (ppuTick { ppu0 with
      ppu := { scanline := 50, dot := d, mask := 0x1E, bgPatLo := 0xFFFF,
               spr := [{ lo := 0xFF, valid := true }] } }).ppu.sprite0Hit
    ([1, 2, 255, 256].map hit) = [false, true, true, false] := by decide
/-- The pulse at a high and a low duty place and at each silencing condition's edge, the triangle at both ends of its
descent, and the ticks that clock the pulse: those that leave the parity bit 0 (R310, R311, R312, R313). -/
theorem witness_ChannelOutputs :
    let out := fun (load : BitVec 11) (len : Byte) (pos : BitVec 3) =>
      pulseOut { duty := 3, volume := 9, timerLoad := load, lengthValue := len, pos := pos }
    [out 8 1 0, out 8 1 1, out 7 1 0, out 8 0 0] = [9, -9, 0, 0] ∧
      [triOut { pos := 0 }, triOut { pos := 15 }, triOut { pos := 31 }] = [8, -7, 8] ∧
      ((apuTick { parity := true, p1 := { timer := 5 } }).p1.timer, (apuTick { p1 := { timer := 5 } }).p1.timer,
        (apuTick { tri := { timer := 5 } }).tri.timer) = (4, 5, 4) ∧
      ((0 : BitVec 11).toNat ≤ 5 ∧ 5 ≤ ({ timer := 5 } : Pulse).timer.toNat) := by decide
theorem witness_Channels : ({} : Noise).lfsr.toNat ≠ 0 ∧ ({} : Pulse).lengthValue = 0 ∧
    ({ lengthValue := 1 } : Pulse).timerLoad.toNat < 8 := by decide
theorem witness_FrameCounter : ({} : Apu).fcDiv = 0 ∧ ({} : Apu).fcStep = 0 ∧
    ({ fcMode5 := true, fcStep := 4 } : Apu).fcStep < 5 ∧ ({ fcStep := 3 } : Apu).fcStep < 4 := by decide
theorem witness_Ring : (drainSamples 4096 {}).1.length < 4095 ∧
    (drainSamples 4096 { widx := 4095 }).1.length = 4095 ∧ 3958 ≤ ({ acc := 3958 } : Apu).acc :=
  ⟨by decide, by decide +kernel, by decide⟩
/-- With the ring full, a sample is dropped, unless the consumer's turn before it removes one (R325). -/
theorem test_consumer_turn_frees_the_ring :
    let full := fun turns : List Nat => sampleStep { acc := 3958, widx := 4095, consumer := { turns := turns } }
    ((full []).widx, (full []).ridx) = (4095, 0) ∧ ((full [0, 2]).widx, (full [0, 2]).consumer.turns) = (4095, [2]) ∧
      ((full [1]).widx, (full [1]).ridx, (full [1]).consumer.out) = (0, 1, [0]) := by decide +kernel
theorem witness_Controllers : (0x01 : Byte).getLsbD 0 = true ∧ (0x00 : Byte).getLsbD 0 = false := by decide
/-- A read of the first controller with the strobe at 0 and at 1: the second's register and the buttons stay (R342). -/
theorem witness_ControllerFrame :
    let u := fun st : Bool => ({ strobe := st, shift0 := 0x02, shift1 := 0x55, buttons0 := 0x81, buttons1 := 0x7E } : Pads)
    padRead (u false) false = (0, { u false with shift0 := 0x81 }) ∧
      padRead (u true) false = (1, { u true with shift0 := 0x81 }) := by decide

end Sys2Proof.Tests
end

section
/-! The family of 10_state.md: what each operation of `Act` writes of the status and of the registers, that it
keeps the state invariant, and from these the statements about the state. -/

namespace Sys2Proof.Machine

/-! ### Which bits of the status an operation writes -/

/-- The status `q` is `p` but for the bits `fs`. -/
def ChangesOnly (fs : List Nat) (p q : Byte) : Prop := ∀ k, k ∉ fs → q.getLsbD k = p.getLsbD k

theorem ChangesOnly.of_eq {p q : Byte} (h : q = p) : ChangesOnly [] p q := fun _ _ => by rw [h]

theorem ChangesOnly.trans {fs gs : List Nat} {p q r : Byte} (h : ChangesOnly fs p q) (h' : ChangesOnly gs q r) :
    ChangesOnly (fs ++ gs) p r := by
  intro k hk
  rw [List.mem_append, not_or] at hk
  rw [h' k hk.2, h k hk.1]

theorem ChangesOnly.mono {fs gs : List Nat} {p q : Byte} (h : ChangesOnly fs p q) (hs : fs ⊆ gs) :
    ChangesOnly gs p q :=
  fun k hk => h k fun hm => hk (hs hm)

theorem changesOnly_setBit (p : Byte) (f : Nat) (v : Bool) (hf : f < 8) : ChangesOnly [f] p (setBit p f v) :=
  fun k hk => setBit_other p f k v hf (by simpa using hk)

theorem changesOnly_setNZ (p v : Byte) : ChangesOnly [flagZ, flagN] p (setNZ p v) := by
  intro k hk
  simp only [List.mem_cons, List.not_mem_nil, or_false, not_or] at hk
  exact setNZ_other p v k hk.2 hk.1

theorem changesOnly_adcStatus (p a m : Byte) : ChangesOnly [flagC, flagZ, flagV, flagN] p (adcStatus p a m) := by
  obtain ⟨_, _, _, _, hrest⟩ := addFlags_adcStatus p a m
  intro k hk
  simp only [List.mem_cons, List.not_mem_nil, or_false, not_or] at hk
  obtain ⟨hc, hz, hv, hn⟩ := hk
  exact hrest k hc hv hn hz

theorem changesOnly_cmpStatus (p r m : Byte) : ChangesOnly [flagC, flagZ, flagN] p (cmpStatus p r m) := by
  obtain ⟨_, _, _, hrest⟩ := compareFlags_cmpStatus p r m
  intro k hk
  simp only [List.mem_cons, List.not_mem_nil, or_false, not_or] at hk
  obtain ⟨hc, hz, hn⟩ := hk
  exact hrest k hc hz hn

theorem changesOnly_bitStatus (p a m : Byte) : ChangesOnly [flagZ, flagV, flagN] p (bitStatus p a m) := by
  refine (((changesOnly_setBit p flagZ _ (by decide)).trans (changesOnly_setBit _ flagN _ (by decide))).trans
    (changesOnly_setBit _ flagV _ (by decide))).mono ?_
  simp

/-- A shift writes the carry and no other flag; N and Z follow from the result (R150 to R153). -/
theorem changesOnly_shift (k : ShiftKind) (p m : Byte) : ChangesOnly [flagC] p (k.fn p m).status := by
  cases k <;> exact changesOnly_setBit p flagC _ (by decide)

theorem readOp_status (o : Operand) (s : State) : ChangesOnly [] s.p (readOp o s).2.p := .of_eq (readOp_p o s)

theorem writeOp_status (o : Operand) (v : Byte) (s : State) : ChangesOnly [] s.p (writeOp o v s).p :=
  .of_eq (writeOp_p o v s)

/-- A read-modify-write writes the flags its byte function writes (R75). -/
theorem rmwOp_status {fs : List Nat} {f : Byte → Byte → Modified} (hf : ∀ p m, ChangesOnly fs p (f p m).status)
    (o : Operand) (s : State) : ChangesOnly fs s.p (rmwOp o f s).2.p := by
  rw [rmwOp_p]
  exact hf _ _

theorem modifyMem_status {fs : List Nat} {f : Byte → Byte → Modified} (hf : ∀ p m, ChangesOnly fs p (f p m).status)
    (o : Operand) (s : State) : ChangesOnly (fs ++ [flagZ, flagN]) s.p (modifyMem f o s).p :=
  (rmwOp_status hf o s).trans (changesOnly_setNZ _ _)

/-- Taking an exception sets `I` (R227). -/
theorem State.enterVector_p (s : State) (ret : Word) (status : Byte) (vector : Word) :
    (s.enterVector ret status vector).p = setBit s.p flagI true := by
  simp [State.enterVector]

/-- Returning from one loads the status pulled (R193). -/
theorem State.returnFromException_p (s : State) : s.returnFromException.p = pulledStatus s.pull.1 := by
  simp [State.returnFromException]

/-- The bits of `P` an operation writes. -/
def Act.flagsWritten : Act → List Nat
  | .loadA _ | .loadX _ | .loadY _ | .loadAX _ | .transferAX | .transferAY | .transferXA | .transferYA | .transferSX
  | .andMem _ | .orMem _ | .eorMem _ | .incMem _ | .decMem _ | .incX | .incY | .decX | .decY | .pullA =>
    [flagZ, flagN]
  | .compareA _ | .compareX _ | .compareY _ | .decCompare _ | .shiftMem _ _ | .shiftA _ | .shiftOr _ | .rotateAnd _
  | .shiftEor _ => [flagC, flagZ, flagN]
  | .addMem _ | .subMem _ | .incSub _ | .rotateAdd _ => [flagC, flagZ, flagV, flagN]
  | .bitTest _ => [flagZ, flagV, flagN]
  | .setFlag f _ => [f.bit]
  | .softwareTrap => [flagI]
  | .pullP | .returnTrap => [flagC, flagZ, flagI, flagD, flagB, flagB5, flagV, flagN]
  | .storeA _ | .storeX _ | .storeY _ | .storeAX _ | .transferXS | .jumpTo _ | .jumpIndirect _ | .call _ | .returnSub
  | .branch _ _ _ | .pushA | .pushP | .noOp | .readDiscard _ | .unknownOpcode _ => []

/-- A status byte has eight bits, so a claim about any other bit of it is empty. -/
theorem changesOnly_all (p q : Byte) :
    ChangesOnly [flagC, flagZ, flagI, flagD, flagB, flagB5, flagV, flagN] p q := by
  intro k hk
  have hk8 : 8 ≤ k := by
    simp only [flagC, flagZ, flagI, flagD, flagB, flagB5, flagV, flagN, List.mem_cons, List.not_mem_nil] at hk
    omega
  rw [BitVec.getLsbD_of_ge _ _ hk8, BitVec.getLsbD_of_ge _ _ hk8]

/-- Every operation leaves the bits of `P` alone that it does not write (R15). -/
theorem Act.run_status (c : Act) (s : State) : ChangesOnly c.flagsWritten s.p (c.run s).p := by
  cases c with
  | loadA o | loadX o | loadY o | loadAX o | andMem o | orMem o | eorMem o =>
    exact (readOp_status o s).trans (changesOnly_setNZ _ _)
  | transferAX | transferAY | transferXA | transferYA | transferSX | incX | incY | decX | decY =>
    exact changesOnly_setNZ _ _
  | pullA => exact (ChangesOnly.of_eq (State.pull_p s.tick.tick)).trans (changesOnly_setNZ _ _)
  | incMem o | decMem o => exact modifyMem_status (fun _ _ => .of_eq rfl) o s
  | compareA o | compareX o | compareY o => exact (readOp_status o s).trans (changesOnly_cmpStatus _ _ _)
  | decCompare o => exact (rmwOp_status (fun _ _ => .of_eq rfl) o s).trans (changesOnly_cmpStatus _ _ _)
  | shiftMem k o => exact modifyMem_status (changesOnly_shift k) o s
  | shiftA k => exact (changesOnly_shift k s.p s.a).trans (changesOnly_setNZ _ _)
  | shiftOr o => exact (rmwOp_status (changesOnly_shift .asl) o s).trans (changesOnly_setNZ _ _)
  | rotateAnd o => exact (rmwOp_status (changesOnly_shift .rol) o s).trans (changesOnly_setNZ _ _)
  | shiftEor o => exact (rmwOp_status (changesOnly_shift .lsr) o s).trans (changesOnly_setNZ _ _)
  | addMem o | subMem o => exact (readOp_status o s).trans (changesOnly_adcStatus _ _ _)
  | incSub o => exact (rmwOp_status (fun _ _ => .of_eq rfl) o s).trans (changesOnly_adcStatus _ _ _)
  | rotateAdd o =>
    refine ((rmwOp_status (changesOnly_shift .ror) o s).trans (changesOnly_adcStatus _ _ _)).mono ?_
    simp [Act.flagsWritten]
  | bitTest o => exact (readOp_status o s).trans (changesOnly_bitStatus _ _ _)
  | setFlag f v => cases f <;> exact changesOnly_setBit s.p _ v (by decide)
  | softwareTrap =>
    rw [Act.run, Machine.softwareTrap, State.enterVector_p]
    exact changesOnly_setBit s.p flagI true (by decide)
  | pullP | returnTrap => exact changesOnly_all _ _
  | storeA o | storeX o | storeY o | storeAX o => exact writeOp_status o _ s
  | readDiscard o => exact readOp_status o s
  | transferXS | jumpTo | noOp | unknownOpcode => exact .of_eq rfl
  | jumpIndirect w => exact .of_eq (by simp [Act.run, Machine.jumpIndirect])
  | call w => exact .of_eq (by simp [Act.run, Machine.call])
  | returnSub => exact .of_eq (by simp [Act.run, Machine.returnSub])
  | branch f v b => exact .of_eq (by simp only [Act.run, Machine.branch]; split_ifs <;> rfl)
  | pushA | pushP => exact .of_eq (State.push_p s.tick _)

/-! ### Which registers an operation writes -/

/-- The registers of R10 and R12. -/
inductive Register where
  | a
  | x
  | y
  | sp
  deriving DecidableEq

/-- The value of a register. -/
def State.register (s : State) : Register → Byte
  | .a => s.a
  | .x => s.x
  | .y => s.y
  | .sp => s.sp

/-- The registers of `t` are those of `s` but for the ones in `rs`. -/
def KeepsRegisters (rs : List Register) (s t : State) : Prop := ∀ r, r ∉ rs → t.register r = s.register r

theorem KeepsRegisters.trans {rs qs : List Register} {s t u : State} (h : KeepsRegisters rs s t)
    (h' : KeepsRegisters qs t u) : KeepsRegisters (rs ++ qs) s u := by
  intro r hr
  rw [List.mem_append, not_or] at hr
  rw [h' r hr.2, h r hr.1]

/-- It is enough to name each register as written or to show it kept. -/
theorem keepsRegisters_of {rs : List Register} {s t : State} (ha : .a ∈ rs ∨ t.a = s.a) (hx : .x ∈ rs ∨ t.x = s.x)
    (hy : .y ∈ rs ∨ t.y = s.y) (hsp : .sp ∈ rs ∨ t.sp = s.sp) : KeepsRegisters rs s t := by
  intro r hr
  cases r with
  | a => exact ha.resolve_left hr
  | x => exact hx.resolve_left hr
  | y => exact hy.resolve_left hr
  | sp => exact hsp.resolve_left hr

theorem keepsRegisters_all {s t : State} (ha : t.a = s.a) (hx : t.x = s.x) (hy : t.y = s.y) (hsp : t.sp = s.sp) :
    KeepsRegisters [] s t :=
  keepsRegisters_of (.inr ha) (.inr hx) (.inr hy) (.inr hsp)

theorem keepsRegisters_but_a {s t : State} (hx : t.x = s.x) (hy : t.y = s.y) (hsp : t.sp = s.sp) :
    KeepsRegisters [.a] s t :=
  keepsRegisters_of (.inl (.head _)) (.inr hx) (.inr hy) (.inr hsp)

theorem keepsRegisters_but_sp {s t : State} (ha : t.a = s.a) (hx : t.x = s.x) (hy : t.y = s.y) :
    KeepsRegisters [.sp] s t :=
  keepsRegisters_of (.inr ha) (.inr hx) (.inr hy) (.inl (.head _))

theorem readOp_registers (o : Operand) (s : State) : KeepsRegisters [] s (readOp o s).2 :=
  keepsRegisters_all (readOp_a o s) (readOp_x o s) (readOp_y o s) (readOp_sp o s)

theorem writeOp_registers (o : Operand) (v : Byte) (s : State) : KeepsRegisters [] s (writeOp o v s) :=
  keepsRegisters_all (writeOp_a o v s) (writeOp_x o v s) (writeOp_y o v s) (writeOp_sp o v s)

theorem rmwOp_registers (o : Operand) (f : Byte → Byte → Modified) (s : State) : KeepsRegisters [] s (rmwOp o f s).2 :=
  keepsRegisters_all (rmwOp_a o f s) (rmwOp_x o f s) (rmwOp_y o f s) (rmwOp_sp o f s)

theorem modifyMem_registers (o : Operand) (f : Byte → Byte → Modified) (s : State) :
    KeepsRegisters [] s (modifyMem f o s) := by
  refine keepsRegisters_all ?_ ?_ ?_ ?_ <;> simp [modifyMem]

theorem State.compare_registers (s : State) (r m : Byte) (n : Nat) :
    KeepsRegisters [] s ((s.compare r m).advance n) :=
  keepsRegisters_all rfl rfl rfl rfl

theorem State.push_registers (s : State) (v : Byte) : KeepsRegisters [.sp] s (s.push v) :=
  keepsRegisters_but_sp (State.push_a s v) (State.push_x s v) (State.push_y s v)

theorem State.pull_registers (s : State) : KeepsRegisters [.sp] s s.pull.2 :=
  keepsRegisters_but_sp (State.pull_a s) (State.pull_x s) (State.pull_y s)

theorem State.enterVector_registers (s : State) (ret : Word) (status : Byte) (vector : Word) :
    KeepsRegisters [.sp] s (s.enterVector ret status vector) :=
  keepsRegisters_but_sp (by simp [State.enterVector]) (by simp [State.enterVector]) (by simp [State.enterVector])

theorem State.returnFromException_registers (s : State) : KeepsRegisters [.sp] s s.returnFromException :=
  keepsRegisters_but_sp (by simp [State.returnFromException]) (by simp [State.returnFromException])
    (by simp [State.returnFromException])

/-- The registers an operation writes. -/
def Act.registersWritten : Act → List Register
  | .loadA _ | .transferXA | .transferYA | .addMem _ | .subMem _ | .andMem _ | .orMem _ | .eorMem _ | .shiftA _
  | .incSub _ | .shiftOr _ | .rotateAnd _ | .shiftEor _ | .rotateAdd _ => [.a]
  | .loadX _ | .transferAX | .transferSX | .incX | .decX => [.x]
  | .loadY _ | .transferAY | .incY | .decY => [.y]
  | .loadAX _ => [.a, .x]
  | .pullA => [.a, .sp]
  | .transferXS | .call _ | .returnSub | .pushA | .pushP | .pullP | .softwareTrap | .returnTrap => [.sp]
  | .storeA _ | .storeX _ | .storeY _ | .storeAX _ | .compareA _ | .compareX _ | .compareY _ | .bitTest _ | .incMem _
  | .decMem _ | .shiftMem _ _ | .decCompare _ | .jumpTo _ | .jumpIndirect _ | .branch _ _ _ | .setFlag _ _ | .noOp
  | .readDiscard _ | .unknownOpcode _ => []

/-- Every operation leaves the registers alone that it does not write (R10, R12). -/
theorem Act.run_registers (c : Act) (s : State) : KeepsRegisters c.registersWritten s (c.run s) := by
  cases c with
  | loadA o | addMem o | subMem o | andMem o | orMem o | eorMem o =>
    exact (readOp_registers o s).trans (keepsRegisters_but_a rfl rfl rfl)
  | loadX o =>
    exact keepsRegisters_of (.inr (readOp_a o s)) (.inl (.head _)) (.inr (readOp_y o s)) (.inr (readOp_sp o s))
  | loadY o =>
    exact keepsRegisters_of (.inr (readOp_a o s)) (.inr (readOp_x o s)) (.inl (.head _)) (.inr (readOp_sp o s))
  | loadAX o =>
    exact keepsRegisters_of (.inl (.head _)) (.inl (.tail _ (.head _))) (.inr (readOp_y o s)) (.inr (readOp_sp o s))
  | compareA o | compareX o | compareY o | bitTest o | readDiscard o => exact readOp_registers o s
  | storeA o | storeX o | storeY o | storeAX o => exact writeOp_registers o _ s
  | incMem o | decMem o | shiftMem k o => exact modifyMem_registers o _ s
  | decCompare o => exact (rmwOp_registers o decF s).trans (State.compare_registers _ _ _ _)
  | incSub o | shiftOr o | rotateAnd o | shiftEor o | rotateAdd o =>
    exact (rmwOp_registers o _ s).trans (keepsRegisters_but_a rfl rfl rfl)
  | transferXA | transferYA | shiftA k => exact keepsRegisters_but_a rfl rfl rfl
  | transferAX | transferSX | incX | decX => exact keepsRegisters_of (.inr rfl) (.inl (.head _)) (.inr rfl) (.inr rfl)
  | transferAY | incY | decY => exact keepsRegisters_of (.inr rfl) (.inr rfl) (.inl (.head _)) (.inr rfl)
  | transferXS => exact keepsRegisters_but_sp rfl rfl rfl
  | pushA | pushP => exact State.push_registers s.tick _
  | pullP => exact State.pull_registers s.tick.tick
  | pullA =>
    have hp := State.pull_registers s.tick.tick
    exact keepsRegisters_of (.inl (.head _)) (.inr (hp .x (by decide))) (.inr (hp .y (by decide)))
      (.inl (.tail _ (.head _)))
  | softwareTrap => exact State.enterVector_registers s.tick _ _ _
  | returnTrap => exact State.returnFromException_registers s.tick.tick
  | call w =>
    exact keepsRegisters_but_sp (State.pushWord_a s.tick _) (State.pushWord_x s.tick _) (State.pushWord_y s.tick _)
  | returnSub =>
    exact keepsRegisters_but_sp (State.pullWord_a s.tick.tick) (State.pullWord_x s.tick.tick)
      (State.pullWord_y s.tick.tick)
  | jumpTo | setFlag | noOp | unknownOpcode => exact keepsRegisters_all rfl rfl rfl rfl
  | jumpIndirect w =>
    refine keepsRegisters_all ?_ ?_ ?_ ?_ <;> simp [Act.run, Machine.jumpIndirect]
  | branch f v b =>
    simp only [Act.run, Machine.branch]
    split_ifs <;> exact keepsRegisters_all rfl rfl rfl rfl

/-! ### Which instructions write a flag and a register -/

/-- The flag table of R15: the mnemonics that write a bit of `P`. -/
def flagWriters : Nat → List Mnemonic
  | 0 => [.adc, .sbc, .uSbc, .cmp, .cpx, .cpy, .asl, .lsr, .rol, .ror, .sec, .clc, .plp, .rti, .uDcp, .uIsb, .uSlo,
      .uRla, .uSre, .uRra]
  | 1 | 7 => [.lda, .ldx, .ldy, .tax, .tay, .txa, .tya, .tsx, .pla, .adc, .sbc, .uSbc, .and, .ora, .eor, .cmp, .cpx,
      .cpy, .bit, .inc, .dec, .inx, .iny, .dex, .dey, .asl, .lsr, .rol, .ror, .plp, .rti, .uLax, .uDcp, .uIsb, .uSlo,
      .uRla, .uSre, .uRra]
  | 2 => [.sei, .cli, .plp, .rti, .brk]
  | 3 => [.sed, .cld, .plp, .rti]
  | 4 | 5 => [.plp, .rti]
  | 6 => [.adc, .sbc, .uSbc, .bit, .clv, .plp, .rti, .uIsb, .uRra]
  | _ => []

/-- What an operation writes of `P`, the flag table grants to the mnemonics of its instructions. -/
theorem flagWriters_actOf (i : Instr) :
    ((actOf i).flagsWritten.all fun k => (flagWriters k).contains i.mnemonic) = true := by
  cases i <;> rfl

theorem exec_keeps_flag {i : Instr} {s t : State} (h : exec i s = .next t) (k : Nat) (hk : i.mnemonic ∉ flagWriters k) :
    t.p.getLsbD k = s.p.getLsbD k := by
  rw [exec_eq, Host.Outcome.next.injEq] at h
  subst h
  refine Act.run_status (actOf i) s k fun hm => hk ?_
  simpa using List.all_eq_true.mp (flagWriters_actOf i) k hm

/-- Settles O13: the bits an operation writes are the flag table's. -/
theorem onlyTheFlagWritersChangeAFlag : Obligations.OnlyTheFlagWritersChangeAFlag := by
  refine ⟨rfl, fun i s t h => ?_⟩
  exact ⟨exec_keeps_flag h flagC, fun hm => ⟨exec_keeps_flag h flagZ hm, exec_keeps_flag h flagN hm⟩,
    exec_keeps_flag h flagI, exec_keeps_flag h flagD, exec_keeps_flag h flagV,
    fun hm => ⟨exec_keeps_flag h flagB hm, exec_keeps_flag h flagB5 hm⟩⟩

/-- The register table of R10 and R12: the mnemonics that write a register in every form. The shifts write `A` in one
form only, see `accumulatorShifts`. -/
def registerWriters : Register → List Mnemonic
  | .a => [.lda, .txa, .tya, .pla, .adc, .sbc, .uSbc, .and, .ora, .eor, .uLax, .uSlo, .uRla, .uSre, .uRra, .uIsb]
  | .x => [.ldx, .tax, .tsx, .inx, .dex, .uLax]
  | .y => [.ldy, .tay, .iny, .dey]
  | .sp => [.txs, .pha, .php, .pla, .plp, .jsr, .rts, .brk, .rti]

/-- The instructions that write a register though their mnemonic's other forms do not: the accumulator shifts
(R63). -/
def accumulatorShifts : Register → List Instr
  | .a => [.aslAcc, .lsrAcc, .rolAcc, .rorAcc]
  | .x | .y | .sp => []

/-- What an operation writes of the registers, the register table grants to its instructions. -/
theorem registerWriters_actOf (i : Instr) :
    ((actOf i).registersWritten.all fun r =>
      (registerWriters r).contains i.mnemonic || (accumulatorShifts r).contains i) = true := by
  cases i <;> rfl

theorem exec_keeps_register {i : Instr} {s t : State} (h : exec i s = .next t) (r : Register)
    (hm : i.mnemonic ∉ registerWriters r) (hi : i ∉ accumulatorShifts r) : t.register r = s.register r := by
  rw [exec_eq, Host.Outcome.next.injEq] at h
  subst h
  refine Act.run_registers (actOf i) s r fun hr => ?_
  have hw := List.all_eq_true.mp (registerWriters_actOf i) r hr
  simp [hm, hi] at hw

/-- Settles O14: the registers an operation writes are the register table's. -/
theorem onlyTheRegisterWritersChangeARegister : Obligations.OnlyTheRegisterWritersChangeARegister := by
  intro i s t h
  exact ⟨exec_keeps_register h .a, fun hm => exec_keeps_register h .x hm List.not_mem_nil,
    fun hm => exec_keeps_register h .y hm List.not_mem_nil, fun hm => exec_keeps_register h .sp hm List.not_mem_nil⟩

/-! ### The state invariant -/

/-- Bits 5 and 4 stay what they are where neither is written (R13). -/
theorem ChangesOnly.statusWf {fs : List Nat} {p q : Byte} (h : ChangesOnly fs p q)
    (hfs : (fs.contains flagB || fs.contains flagB5) = false) (hp : StatusWf p) : StatusWf q := by
  simp only [Bool.or_eq_false_iff, List.contains_eq_mem, decide_eq_false_iff_not] at hfs
  exact ⟨(h flagB5 hfs.2).trans hp.1, (h flagB hfs.1).trans hp.2⟩

theorem State.Wf.status {s : State} (h : s.Wf) : StatusWf s.p := h.2.1

/-- Outside the CPU's registers `t` is as in a well-formed state. -/
def OutsideWf (t : State) : Prop := ∃ r : State, r.Wf ∧ OutsideAs r t

theorem State.Wf.outside {s : State} (h : s.Wf) : OutsideWf s := ⟨s, h, OutsideAs.refl s⟩

theorem OutsideWf.update {t : State} (h : OutsideWf t) (a x y sp p : Byte) (pc : Word) :
    OutsideWf { t with a := a, x := x, y := y, sp := sp, p := p, pc := pc } := h

/-- The invariant asks nothing of the CPU's registers but the status. -/
theorem OutsideWf.wf {t : State} (h : OutsideWf t) (hp : StatusWf t.p) : t.Wf := by
  obtain ⟨r, ⟨hram, _, hppu, hapu, hcart⟩, _, eram, eppu, eapu, _, ecart, _⟩ := h
  exact ⟨eram ▸ hram, hp, eppu ▸ hppu, eapu ▸ hapu, ecart ▸ hcart⟩

/-- Every operation leaves bits 5 and 4 of `P` at 1 and 0: PLP and RTI force them, the others do not write them. -/
theorem Act.run_statusWf (c : Act) (s : State) (h : StatusWf s.p) : StatusWf (c.run s).p := by
  cases c with
  | pullP => exact pulledStatus_bits _
  | returnTrap =>
    rw [Act.run, Machine.returnTrap, State.returnFromException_p]
    exact pulledStatus_bits _
  | setFlag f v => exact (Act.run_status _ s).statusWf (by cases f <;> rfl) h
  | _ => exact (Act.run_status _ s).statusWf rfl h

/-- The status that the byte function of a read-modify-write sets before the write cycle may as well be set after it
(R75). -/
theorem rmwOp_eq (o : Operand) (f : Byte → Byte → Modified) (s : State) :
    let e := effAddr .writeType o s
    let t := (e.2.read e.1).2.tick
    (rmwOp o f s).2 = { t.write e.1 (rmwOp o f s).1 with p := (f t.p (e.2.read e.1).1).status } :=
  State.write_withP _ _ _ _

theorem rmwOp_outside (o : Operand) (f : Byte → Byte → Modified) (s : State) (h : s.Wf) :
    OutsideWf (rmwOp o f s).2 := by
  have ht := State.tick_wf _ (State.read_wf _ (effAddr .writeType o s).1 (effAddr_wf .writeType o s h))
  rw [rmwOp_eq]
  exact (State.write_wf _ _ _ ht).outside.update _ _ _ _ _ _

/-- `I` may as well be set after the vector is read (R227). -/
theorem State.enterVector_eq (s : State) (ret : Word) (status : Byte) (vector : Word) :
    let pushed := (s.pushWord ret).push status
    s.enterVector ret status vector =
      { (pushed.readWord vector).2 with p := setBit pushed.p flagI true, pc := (pushed.readWord vector).1 } := by
  simp only [State.enterVector, State.readWord_withP]

/-- Taking an exception: three pushes and the read of the vector (R227). -/
theorem State.enterVector_outside (s : State) (ret : Word) (status : Byte) (vector : Word) (h : s.Wf) :
    OutsideWf (s.enterVector ret status vector) := by
  have hp : ((s.pushWord ret).push status).Wf := State.push_wf _ _ (State.pushWord_wf _ _ h)
  rw [State.enterVector_eq]
  exact (State.readWord_wf _ vector hp).outside.update _ _ _ _ _ _

/-- Returning from one: three pulls (R193). -/
theorem State.returnFromException_outside (s : State) (h : s.Wf) : OutsideWf s.returnFromException := by
  have hp : ({ s.pull.2 with p := pulledStatus s.pull.1 } : State).Wf :=
    ((State.pull_wf _ h).outside.update _ _ _ _ _ _).wf (pulledStatus_bits _)
  exact (State.pullWord_wf _ hp).outside.update _ _ _ _ _ _

/-- Outside the CPU's registers every operation leaves what well-formed bus cycles leave. -/
theorem Act.run_outside (c : Act) (s : State) (h : s.Wf) : OutsideWf (c.run s) := by
  cases c with
  | loadA o | loadX o | loadY o | loadAX o | addMem o | subMem o | andMem o | orMem o | eorMem o | compareA o
  | compareX o | compareY o | bitTest o | readDiscard o =>
    exact (readOp_wf o s h).outside.update _ _ _ _ _ _
  | storeA o | storeX o | storeY o | storeAX o => exact (writeOp_wf o _ s h).outside.update _ _ _ _ _ _
  | incMem o | incSub o => exact (rmwOp_outside o incF s h).update _ _ _ _ _ _
  | decMem o | decCompare o => exact (rmwOp_outside o decF s h).update _ _ _ _ _ _
  | shiftMem k o => exact (rmwOp_outside o k.fn s h).update _ _ _ _ _ _
  | shiftOr o => exact (rmwOp_outside o aslF s h).update _ _ _ _ _ _
  | rotateAnd o => exact (rmwOp_outside o rolF s h).update _ _ _ _ _ _
  | shiftEor o => exact (rmwOp_outside o lsrF s h).update _ _ _ _ _ _
  | rotateAdd o => exact (rmwOp_outside o rorF s h).update _ _ _ _ _ _
  | transferAX | transferAY | transferXA | transferYA | transferSX | transferXS | incX | incY | decX | decY | shiftA k
  | setFlag f v | noOp =>
    exact (State.tick_wf s h).outside.update _ _ _ _ _ _
  | jumpTo w => exact h.outside.update _ _ _ _ _ _
  | jumpIndirect w => exact (State.read_wf _ _ (State.read_wf s w h)).outside.update _ _ _ _ _ _
  | call w => exact (State.pushWord_wf _ _ (State.tick_wf s h)).outside.update _ _ _ _ _ _
  | returnSub =>
    exact (State.tick_wf _ (State.pullWord_wf _ (State.ticks_wf 2 s h))).outside.update _ _ _ _ _ _
  | branch f v b =>
    simp only [Act.run, Machine.branch]
    split_ifs
    · exact (State.ticks_wf 2 s h).outside.update _ _ _ _ _ _
    · exact (State.tick_wf s h).outside.update _ _ _ _ _ _
    · exact h.outside.update _ _ _ _ _ _
  | pushA | pushP => exact (State.push_wf _ _ (State.tick_wf s h)).outside.update _ _ _ _ _ _
  | pullA | pullP => exact (State.pull_wf _ (State.ticks_wf 2 s h)).outside.update _ _ _ _ _ _
  | softwareTrap => exact State.enterVector_outside _ _ _ _ (State.tick_wf s h)
  | returnTrap => exact State.returnFromException_outside _ (State.ticks_wf 2 s h)
  | unknownOpcode op =>
    have hl : (s.logged (.unknownOpcode op s.pc)).Wf := h
    exact hl.outside.update _ _ _ _ _ _

theorem Act.run_wf (c : Act) (s : State) (h : s.Wf) : (c.run s).Wf :=
  (c.run_outside s h).wf (c.run_statusWf s h.status)

theorem State.nmiService_wf (s : State) (h : s.Wf) : s.nmiService.Wf := by
  have hp : s.nmiService.p = setBit s.p flagI true := State.enterVector_p _ _ _ _
  refine (State.enterVector_outside _ _ _ _ (State.ticks_wf 2 s h)).wf ?_
  exact hp ▸ (changesOnly_setBit s.p flagI true (by decide)).statusWf rfl h.status

theorem fetch_wf (s : State) (h : s.Wf) : (fetch s).2.Wf := by
  have hop := State.read_wf s s.pc h
  have hb1 := State.read_wf _ (s.pc + 1) hop
  unfold fetch
  dsimp only
  split
  · exact hop
  · exact hb1
  · exact State.read_wf _ _ hb1

theorem step_wf {s t : State} (h : s.Wf) (hs : step s = .next t) : t.Wf := by
  unfold step at hs
  split at hs
  · rw [← Host.Outcome.next.inj hs]
    exact State.nmiService_wf s.clearNmi h
  · rw [exec_eq] at hs
    rw [← Host.Outcome.next.inj hs]
    exact Act.run_wf _ _ (fetch_wf s h)

/-- A reset reads the vector on the bus and sets four registers; its status $24 has bit 5 set and bit 4 clear (R360). -/
theorem hostReset_wf (s : State) (h : s.Wf) : (hostReset s).Wf := by
  obtain ⟨hram, _, hppu, hapu, hcart⟩ :=
    State.busRead_wf _ (resetVector + 1) (State.busRead_wf s resetVector h)
  have hp : StatusWf 0x24 := by decide
  exact ⟨hram, hp, hppu, hapu, hcart⟩

/-- Settles O8: the invariant is kept by each operation, so by the step, and by each call of the host. -/
theorem everyMoveKeepsTheInvariant : Obligations.EveryMoveKeepsTheInvariant := by
  intro m s t h hm
  cases m with
  | step => exact step_wf h hm
  | reset =>
    rw [← Host.Outcome.next.inj hm]
    exact hostReset_wf s h
  | drainAudio n =>
    obtain ⟨hram, hp, hppu, hapu, hcart⟩ := h
    rw [← Host.Outcome.next.inj hm]
    exact ⟨hram, hp, hppu, consumerRemoves_wf n s.apu hapu, hcart⟩
  | setPc | sendInput | scheduleAudio | takeFrame =>
    rw [← Host.Outcome.next.inj hm]
    exact h

/-- The devices' reset values are in range; the four memories are `RAM_INIT`'s (R23). -/
theorem State.resetFrom_wf (init : RamInit) (c : Mapper) (hi : RamInitWf init) (hc : c.wf = true) :
    (State.resetFrom init c).Wf := by
  obtain ⟨hram, hvram, hpal, hkeys, hoam⟩ := hi
  have hp : StatusWf 0x24 := by decide
  have hppu : ({} : Ppu).dot ≤ 340 ∧ (-1 ≤ ({} : Ppu).scanline ∧ ({} : Ppu).scanline ≤ 260) ∧
      ({} : Ppu).sec.length ≤ 8 ∧ ({} : Ppu).spr.length = 8 ∧ sparseWf none 61440 ({} : Ppu).fb = true := by decide
  have hapu : ({} : Apu).Wf := by decide
  have hcart : ((c.cpuRead 0xFFFC).2.cpuRead 0xFFFD).2.wf = true := by simpa using hc
  exact ⟨hram, hp, ⟨hvram, hpal, hkeys, hoam, hppu⟩, hapu, hcart⟩

/-- Settles O9: the defaults of the devices are in range, the memories are `RAM_INIT`'s and the cartridge's. -/
theorem resetMeetsTheInvariant : Obligations.ResetMeetsTheInvariant :=
  ⟨State.resetFrom_wf _ _ (by decide) (by decide), State.resetFrom_wf⟩

/-! ### The stack -/

theorem State.pull_push (s : State) (v : Byte) : (s.push v).pull.1 = v := by
  refine State.pull_byte _ _ ?_
  rw [State.push_sp, BitVec.sub_add_cancel, State.push_byteAt_self]

/-- What `pull` returns is the byte of its stack cell. -/
theorem State.byteAt_pull (s : State) : s.byteAt (stackAddr (s.sp + 1)) = some s.pull.1 := by
  rw [State.pull_eq]
  simp [State.byteAt_eq]

theorem State.push_cycle (s : State) (v : Byte) : (s.push v).cycle = s.cycle + 1 := by
  rw [State.push_eq]; rfl

theorem State.pull_cycle (s : State) : s.pull.2.cycle = s.cycle + 1 := by
  rw [State.pull_eq]; rfl

/-- Settles O20: a push and a pull meet in the cell of page 1 that `SP` names, and `SP` is a byte. -/
theorem stackPushesAndPulls : Obligations.StackPushesAndPulls := by
  intro s v
  have hpush := State.push_byteAt_self s v
  have hpull := State.byteAt_pull s
  refine ⟨rfl, ?_, rfl, State.pull_push s v, ?_, hpush, State.push_sp s v, State.push_cycle s v, State.pull_cycle s,
    State.pull_sp s, hpull, fun h => ?_, fun h => ?_⟩
  · rw [State.push, State.write_sp]; rfl
  · rw [State.pull_sp, State.push_sp, BitVec.sub_add_cancel]
  · rw [h] at hpush
    rw [State.push_sp, h]
    exact ⟨hpush, rfl⟩
  · rw [h] at hpull
    rw [State.pull_sp, h]
    exact ⟨hpull, rfl⟩

end Sys2Proof.Machine
end

section
/-! The family of 20_memory.md: the decode of each range of the address map, one bus cycle at each kind of address,
PPUSTATUS and PPUCTRL on the bus, and OAM DMA. -/

namespace Sys2Proof.Machine

/-! ### Words -/

theorem loByte_toNat (w : Word) : (loByte w).toNat = w.toNat % 256 := by
  simp [loByte]

theorem hiByte_toNat (w : Word) : (hiByte w).toNat = w.toNat / 256 := by
  have := w.isLt
  simp only [hiByte, BitVec.toNat_setWidth, BitVec.toNat_ushiftRight, Nat.shiftRight_eq_div_pow]
  omega

/-- Low and high byte are the two digits of a word in base 256 (R7, R42). -/
theorem wordOf_toNat (lo hi : Byte) : (wordOf lo hi).toNat = lo.toNat + 256 * hi.toNat := by
  have hlo := loByte_toNat (wordOf lo hi)
  have hhi := hiByte_toNat (wordOf lo hi)
  rw [loByte_wordOf] at hlo
  rw [hiByte_wordOf] at hhi
  omega

/-! ### The address map, range by range -/

theorem regionOf_ram {a : Word} (h : a ≤ 0x1FFF) : regionOf a = .ram := (regionOf_ram_iff a).2 h

theorem regionOf_ppuPort {a : Word} (h1 : 0x2000 ≤ a) (h2 : a ≤ 0x3FFF) : regionOf a = .ppuPort := by
  rw [regionOf, if_neg (by bv_omega), if_pos h2]

theorem regionOf_apuChannel {a : Word} (h1 : 0x4000 ≤ a) (h2 : a ≤ 0x4013) : regionOf a = .apuChannel := by
  rw [regionOf, if_neg (by bv_omega), if_neg (by bv_omega), if_pos h2]

theorem regionOf_unused {a : Word} (h1 : 0x4018 ≤ a) (h2 : a ≤ 0x5FFF) : regionOf a = .unused := by
  unfold regionOf
  iterate 7 rw [if_neg (by bv_omega)]
  exact if_pos h2

theorem regionOf_cartridge_iff (a : Word) : regionOf a = .cartridge ↔ 0x6000 ≤ a := by
  refine ⟨fun h => ?_, fun h => ?_⟩
  · unfold regionOf at h
    split_ifs at h
    bv_omega
  · unfold regionOf
    iterate 8 rw [if_neg (by bv_omega)]

theorem regionOf_cartridge {a : Word} (h : 0x6000 ≤ a) : regionOf a = .cartridge := (regionOf_cartridge_iff a).2 h

/-- The addresses below $6000 where nothing can be read (R36). -/
theorem regionOf_unreadable {a : Word} (h : (0x4000 ≤ a ∧ a ≤ 0x4014) ∨ (0x4018 ≤ a ∧ a ≤ 0x5FFF)) :
    regionOf a = .apuChannel ∨ regionOf a = .dmaPort ∨ regionOf a = .unused := by
  obtain ⟨h1, h2⟩ | ⟨h1, h2⟩ := h
  · by_cases hd : a = 0x4014
    · exact .inr (.inl (hd ▸ rfl))
    · exact .inl (regionOf_apuChannel h1 (by bv_omega))
  · exact .inr (.inr (regionOf_unused h1 h2))

/-- The addresses the audio unit can be written at (R37). -/
theorem regionOf_apuPort {a : Word} (h : (0x4000 ≤ a ∧ a ≤ 0x4013) ∨ a = 0x4015 ∨ a = 0x4017) :
    regionOf a = .apuChannel ∨ regionOf a = .apuStatus ∨ regionOf a = .pad2 := by
  obtain ⟨h1, h2⟩ | rfl | rfl := h
  · exact .inl (regionOf_apuChannel h1 h2)
  · exact .inr (.inl rfl)
  · exact .inr (.inr rfl)

theorem ramIndex_eq (a : Word) : ramIndex a = a.toNat % 2048 := BitVec.toNat_setWidth 11 a

theorem ppuPortOf_eq (a : Word) : ppuPortOf a = BitVec.ofNat 3 (a.toNat % 8) := by
  apply BitVec.eq_of_toNat_eq
  simp [ppuPortOf]

/-- Bit 15 of an address tells the program memory of a `FLAT32` from its work memory (R346). -/
theorem msb_eq_decide_le (a : Word) : a.msb = decide (0x8000 ≤ a) := by
  rw [BitVec.msb_eq_decide]; rfl

theorem prgIndex_eq {a : Word} (h : 0x8000 ≤ a) : prgIndex a = a.toNat - 0x8000 := by
  simp only [prgIndex, BitVec.toNat_setWidth]
  bv_omega

theorem wramIndex_eq {a : Word} (h1 : 0x6000 ≤ a) (h2 : a ≤ 0x7FFF) : wramIndex a = a.toNat - 0x6000 := by
  simp only [wramIndex, BitVec.toNat_setWidth]
  bv_omega

/-! ### Plain storage -/

theorem State.byteAt_ram (s : State) {a : Word} (h : a ≤ 0x1FFF) :
    s.byteAt a = some (s.ram.read (a.toNat % 2048)) := by
  rw [State.byteAt_eq, regionOf_ram h, ramIndex_eq]

theorem State.byteAt_port (s : State) {a : Word} (h1 : 0x2000 ≤ a) (h2 : a ≤ 0x5FFF) : s.byteAt a = none := by
  rw [State.byteAt_eq]
  cases hr : regionOf a
  case ram =>
    have := (regionOf_ram_iff a).1 hr
    bv_omega
  case cartridge =>
    have := (regionOf_cartridge_iff a).1 hr
    bv_omega
  all_goals rfl

/-- A `FLAT32`'s program memory, as the CPU sees it (R346). -/
theorem State.byteAt_prg {s : State} {f : Flat32} (hc : s.cart = .flat32 f) {a : Word} (h : 0x8000 ≤ a) :
    s.byteAt a = some (f.prg.read (a.toNat - 0x8000)) := by
  have hm : a.msb = true := (msb_eq_decide_le a).trans (decide_eq_true h)
  rw [State.byteAt_eq, regionOf_cartridge (by bv_omega), hc, ← prgIndex_eq h]
  simp [Mapper.cpuView, hm]

/-- A `FLAT32`'s work memory, as the CPU sees it (R346). -/
theorem State.byteAt_wram {s : State} {f : Flat32} (hc : s.cart = .flat32 f) {a : Word} (h1 : 0x6000 ≤ a)
    (h2 : a ≤ 0x7FFF) : s.byteAt a = some (f.wram.read (a.toNat - 0x6000)) := by
  have hm : a.msb = false := (msb_eq_decide_le a).trans (decide_eq_false (by bv_omega))
  rw [State.byteAt_eq, regionOf_cartridge h1, hc, ← wramIndex_eq h1 h2]
  simp [Mapper.cpuView, hm]

theorem State.byteAt_custom {s : State} {st : List Nat} (hc : s.cart = .custom st) {a : Word} (h : 0x6000 ≤ a) :
    s.byteAt a = none := by
  rw [State.byteAt_eq, regionOf_cartridge h, hc]
  rfl

/-- A bus read of plain storage returns the byte and has no side effect (R36, R346). -/
theorem State.busRead_plain {s : State} {a : Word} {v : Byte} (h : s.byteAt a = some v) : s.busRead a = (v, s) := by
  unfold State.byteAt at h
  unfold State.busRead
  cases hr : regionOf a <;> rw [hr] at h
  case ram => exact congrArg (·, s) (Option.some.inj h)
  case cartridge =>
    cases hc : s.cart <;> rw [hc] at h
    case flat32 f =>
      obtain rfl := Option.some.inj h
      simp only [Mapper.cpuRead, ← hc]
    case custom => contradiction
  all_goals contradiction

/-- A read cycle of plain storage returns its byte and one cycle passes (R34, R36). -/
theorem State.read_plain_eq {s : State} {a : Word} {v : Byte} (h : s.byteAt a = some v) : s.read a = (v, s.tick) :=
  State.busRead_plain ((State.byteAt_tick s a).trans h)

/-! ### The picture unit's ports -/

/-- The readable ports are PPUSTATUS, OAMDATA and PPUDATA (R251). -/
theorem ppuPortReadable_ofNat {n : Nat} (h : n < 8) :
    ppuPortReadable (BitVec.ofNat 3 n) = decide (n = 2 ∨ n = 4 ∨ n = 7) := by
  interval_cases n <;> rfl

/-- A write-only port reads as 0 and changes nothing (R251). -/
theorem ppuPortRead_writeOnly (g : PpuSide) {p : BitVec 3} (h : ppuPortReadable p = false) :
    ppuPortRead g p = (0, g) := by
  simp only [ppuPortReadable, Bool.or_eq_false_iff, decide_eq_false_iff_not] at h
  obtain ⟨⟨h2, h4⟩, h7⟩ := h
  rw [ppuPortRead, if_neg h2, if_neg h4, if_neg h7]

/-- The address that the log names for port `n`: mirrors are logged as the port itself (R39, R251). -/
theorem portLogAddr_ofNat {n : Nat} (h : n < 8) :
    (0x2000 : Word) ||| zext16 ((BitVec.ofNat 3 n).setWidth 8) = BitVec.ofNat 16 (0x2000 + n) := by
  interval_cases n <;> rfl

/-- A write cycle at a port of the picture unit or its mirror is the port's own write (R37, R39). -/
theorem State.write_ppuPort (s : State) {a : Word} (v : Byte) (h1 : 0x2000 ≤ a) (h2 : a ≤ 0x3FFF) :
    s.write a v = s.tick.withPpuSide (ppuPortWrite s.tick.ppuSide (BitVec.ofNat 3 (a.toNat % 8)) v) := by
  rw [State.write_eq, State.busWrite, State.busWriteDirect, regionOf_ppuPort h1 h2, ppuPortOf_eq]
  rfl

/-- A read cycle at a port of the picture unit or its mirror: the port's own read where it has one, else 0 and a log
entry (R36, R39, R251). -/
theorem State.read_ppuPort (s : State) {a : Word} (h1 : 0x2000 ≤ a) (h2 : a ≤ 0x3FFF) :
    let n := a.toNat % 8
    let r := ppuPortRead s.tick.ppuSide (BitVec.ofNat 3 n)
    s.read a =
      if n = 2 ∨ n = 4 ∨ n = 7 then (r.1, s.tick.withPpuSide r.2)
      else (0, s.tick.logged (.illegalRead (BitVec.ofNat 16 (0x2000 + n)))) := by
  have hn : a.toNat % 8 < 8 := Nat.mod_lt _ (by decide)
  rw [State.read_eq, State.busRead, regionOf_ppuPort h1 h2, ppuPortOf_eq]
  simp only [portLogAddr_ofNat hn, ppuPortReadable_ofNat hn, decide_eq_true_eq]
  split_ifs with h
  · rfl
  · rw [ppuPortRead_writeOnly _ ((ppuPortReadable_ofNat hn).trans (decide_eq_false h))]

/-! ### The other targets -/

theorem State.write_ram_ram (s : State) {a : Word} (v : Byte) (h : regionOf a = .ram) :
    (s.write a v).ram = s.ram.write (ramIndex a) v := by
  rw [State.write_ram s a v h]

/-- A write cycle to $4014 is one cycle, then the whole OAM DMA (R37, R44). -/
theorem State.write_dmaPort (s : State) (page : Byte) : s.write 0x4014 page = s.tick.oamDma page := by
  rw [State.write_eq, State.busWrite]
  exact if_pos rfl

/-- A read where nothing can be read: 0, and a log entry (R36, D15). -/
theorem State.read_illegal (s : State) {a : Word}
    (h : regionOf a = .apuChannel ∨ regionOf a = .dmaPort ∨ regionOf a = .unused) :
    s.read a = (0, s.tick.logged (.illegalRead a)) := by
  rw [State.read_eq, State.busRead]
  obtain h | h | h := h <;> rw [h]

/-- A write to an address with no target does nothing (R37). -/
theorem State.write_unused (s : State) {a : Word} (v : Byte) (h : regionOf a = .unused) : s.write a v = s.tick := by
  rw [State.write_eq, State.busWrite, State.busWriteDirect, h]
  rfl

/-- A write to a port of the audio unit is that unit's own (R37). -/
theorem State.write_apu (s : State) {a : Word} (v : Byte)
    (h : regionOf a = .apuChannel ∨ regionOf a = .apuStatus ∨ regionOf a = .pad2) :
    s.write a v = { s.tick with apu := apuWrite s.tick.apu a v } := by
  rw [State.write_eq, State.busWrite, State.busWriteDirect]
  obtain h | h | h := h <;> rw [h] <;> rfl

theorem State.read_cartridge (s : State) {a : Word} (h : 0x6000 ≤ a) :
    s.read a = ((s.tick.cart.cpuRead a).1, { s.tick with cart := (s.tick.cart.cpuRead a).2 }) := by
  rw [State.read_eq, State.busRead, regionOf_cartridge h]

theorem State.write_cartridge (s : State) {a : Word} (v : Byte) (h : 0x6000 ≤ a) :
    s.write a v = { s.tick with cart := s.tick.cart.cpuWrite a v } := by
  rw [State.write_eq, State.busWrite, State.busWriteDirect, regionOf_cartridge h]
  rfl

/-- A tick leaves a `FLAT32` as it is: the picture unit only reads its pattern memory (R346). -/
theorem State.tick_flat32 {s : State} {f : Flat32} (hc : s.cart = .flat32 f) : s.tick.cart = .flat32 f := by
  obtain ⟨_, _, _, _, hf⟩ := State.tick_same s
  exact hf f hc

/-- The program memory of a `FLAT32` cannot be written (R346). -/
theorem State.write_program {s : State} {f : Flat32} (hc : s.cart = .flat32 f) {a : Word} (v : Byte)
    (h : 0x8000 ≤ a) : s.write a v = s.tick := by
  have hm : a.msb = true := (msb_eq_decide_le a).trans (decide_eq_true h)
  have ht := State.tick_flat32 hc
  rw [State.write_cartridge s v (by bv_omega), ht, Mapper.cpuWrite, if_pos hm, ← ht]

/-! ### The statements about one bus cycle -/

/-- Settles O18: the decode of each range of the address map, and the bus access in that region. -/
theorem busCyclesFollowTheAddressMap : Obligations.BusCyclesFollowTheAddressMap :=
  ⟨fun _ _ w lo hi => ⟨rfl, rfl, rfl, wordOf_toNat lo hi, hiByte_toNat w, loByte_toNat w⟩,
    fun s _ => ⟨s.byteAt_ram, s.byteAt_port, fun _ hc => ⟨State.byteAt_wram hc, State.byteAt_prg hc⟩,
      fun _ hc => State.byteAt_custom hc⟩,
    fun _ _ _ => State.read_plain_eq,
    fun s _ _ => Stored.of_outside (SameMemory.refl s) (OutsideAs.refl _),
    fun _ _ v _ hc h => State.write_program hc v h,
    fun s _ h => s.read_illegal (regionOf_unreadable h),
    fun s _ v h1 h2 => s.write_unused v (regionOf_unused h1 h2),
    fun s _ v h1 h2 => ⟨s.write_ppuPort v h1 h2, s.read_ppuPort h1 h2⟩,
    fun s _ v h => s.write_apu v (regionOf_apuPort h),
    fun s v => ⟨rfl, rfl, rfl, rfl, s.write_dmaPort v⟩,
    fun s _ v h => ⟨s.read_cartridge h, s.write_cartridge v h⟩⟩

/-- Settles O19: addresses of work RAM that agree mod 2048 name one byte (R38). -/
theorem workRamMirrors : Obligations.WorkRamMirrors := by
  intro s a b v ha hb
  rw [State.read_ram_byte _ b (regionOf_ram hb), State.read_ram_byte _ b (regionOf_ram hb),
    State.write_ram_ram s v (regionOf_ram ha), ramIndex_eq, ramIndex_eq]
  exact ⟨fun h => h ▸ Memory.read_write_self _ _ v, fun h => Memory.read_write_other _ (Ne.symm h) v⟩

/-! ### PPUSTATUS and PPUCTRL -/

theorem getLsbD_bitOf (n : Nat) (b : Bool) (i : Nat) : (bitOf (n + 1) b).getLsbD i = (decide (i = 0) && b) := by
  cases b <;> simp [bitOf]

/-- The layout of PPUSTATUS (R255, D38). -/
theorem getLsbD_statusByte (u : Ppu) (k : Nat) :
    (statusByte u).getLsbD k =
      if k = 7 then u.vblank else if k = 6 then u.sprite0Hit else if k = 5 then u.spriteOverflow else false := by
  by_cases hk : k < 8
  · simp only [statusByte, BitVec.getLsbD_or, BitVec.getLsbD_shiftLeft, getLsbD_bitOf]
    interval_cases k <;> simp
  · rw [BitVec.getLsbD_of_ge _ k (Nat.le_of_not_lt hk), if_neg (by omega), if_neg (by omega), if_neg (by omega)]

/-- Settles O44: port 2 is `status_read()`, whose byte has the three flags in its top bits (R255). -/
theorem statusReadClearsVblankAndToggle : Obligations.StatusReadClearsVblankAndToggle := by
  intro s a h1 h2 hp
  have hr := s.read_ppuPort h1 h2
  simp only [hp] at hr
  dsimp only
  rw [hr]
  have hb := getLsbD_statusByte s.tick.ppu
  exact ⟨hb 7, hb 6, hb 5, fun k hk => (hb k).trans (by rw [if_neg, if_neg, if_neg] <;> omega), rfl⟩

/-- The two nametable bits of PPUCTRL go to bits 10 and 11 of `t` (R252). -/
theorem getLsbD_ctrlWrite_t (u : Ppu) (b : Byte) (k : Nat) :
    (ctrlWrite u b).t.getLsbD k =
      if k = 10 then b.getLsbD 0 else if k = 11 then b.getLsbD 1 else u.t.getLsbD k := by
  by_cases hk : k < 15
  · simp only [ctrlWrite, BitVec.getLsbD_or, BitVec.getLsbD_and, BitVec.getLsbD_shiftLeft, BitVec.getLsbD_setWidth]
    interval_cases k <;> simp
  · have h15 : 15 ≤ k := Nat.le_of_not_lt hk
    rw [if_neg (by omega), if_neg (by omega), BitVec.getLsbD_of_ge _ k h15, BitVec.getLsbD_of_ge _ k h15]

/-- Settles O45: port 0 is `ctrl_write(b)` (R252, R253). -/
theorem controlWriteAndNmiRetrigger : Obligations.ControlWriteAndNmiRetrigger := by
  intro s a b h1 h2 hp
  have hw := s.write_ppuPort b h1 h2
  rw [hp] at hw
  exact ⟨ctrlWrite s.tick.ppu b, hw, rfl, getLsbD_ctrlWrite_t _ b, rfl⟩

/-! ### OAM DMA as bus cycles -/

/-- A DMA writes OAMDATA by an ordinary write cycle (R44, D16). -/
theorem State.writeDirect_oamData (s : State) (b : Byte) : s.writeDirect 0x2004 b = s.write 0x2004 b := by
  rw [State.writeDirect_eq, State.write_eq, State.busWrite, if_neg (by decide)]

theorem pageAddr_eq (page : Byte) {k : Nat} (h : k < 256) :
    pageAddr page k = BitVec.ofNat 16 (256 * page.toNat + k) := by
  have hp := page.isLt
  apply BitVec.eq_of_toNat_eq
  rw [pageAddr, wordOf_toNat, BitVec.toNat_ofNat, BitVec.toNat_ofNat]
  omega

/-- One byte of a DMA: a read cycle in the page and a write cycle to OAMDATA (R44). -/
def dmaPair (page : Byte) (u : State) (k : Nat) : State :=
  let b := u.read (BitVec.ofNat 16 (256 * page.toNat + k))
  b.2.write 0x2004 b.1

theorem dmaBytes_eq_foldl (page : Byte) : ∀ (n i : Nat) (s : State), i + n ≤ 256 →
    dmaBytes page n i s = (List.range' i n).foldl (dmaPair page) s
  | 0, _, _, _ => rfl
  | n + 1, i, s, h => by
    have hi : i < 256 := by omega
    rw [List.range'_succ, List.foldl_cons, ← dmaBytes_eq_foldl page n (i + 1) _ (by omega), dmaBytes,
      pageAddr_eq page hi, State.writeDirect_oamData]
    rfl

/-- The DMA takes its alignment cycle where the counter is odd (R44, D16). -/
theorem dmaAligns_eq (s : State) : dmaAligns s = decide (s.cycle % 2 = 1) := beq_true _

/-- A write of `page` to $4014: the write cycle and the wait cycle, one more cycle where the counter is then odd, and
the bytes of the page (R44, D16). -/
theorem State.write_dmaPort_eq_foldl (s : State) (page : Byte) :
    s.write 0x4014 page = (List.range 256).foldl (dmaPair page) (State.ticks (2 + (s.cycle + 1) % 2) s) := by
  rw [List.range_eq_range', ← dmaBytes_eq_foldl page 256 0 _ (Nat.le_refl 256), State.write_dmaPort, State.oamDma,
    dmaAligns_eq, State.tick_cycle]
  obtain h | h := Nat.mod_two_eq_zero_or_one (s.cycle + 1) <;> rw [h] <;> rfl

/-- 513 or 514 cycles pass after the write cycle (R44). -/
theorem State.write_dmaPort_cycle (s : State) (page : Byte) :
    (s.write 0x4014 page).cycle = s.cycle + (514 + (s.cycle + 1) % 2) := by
  rw [State.write_dmaPort, State.oamDma_cycle, dmaAligns_eq, State.tick_cycle]
  simp only [decide_eq_true_eq]
  split_ifs <;> omega

/-! ### Internal cycles -/

theorem State.ticks_eq_iterate : ∀ (n : Nat) (s : State), State.ticks n s = State.tick^[n] s
  | 0, _ => rfl
  | n + 1, s => State.ticks_eq_iterate n s.tick

theorem State.ticks_succ (n : Nat) (s : State) : State.ticks (n + 1) s = (State.ticks n s).tick := by
  rw [State.ticks_eq_iterate, State.ticks_eq_iterate, Function.iterate_succ_apply']

theorem State.ticks_ticks (m n : Nat) (s : State) : State.ticks m (State.ticks n s) = State.ticks (m + n) s := by
  rw [State.ticks_eq_iterate, State.ticks_eq_iterate, State.ticks_eq_iterate, Function.iterate_add_apply]

theorem State.ticks_apu : ∀ (n : Nat) (s : State), (State.ticks n s).apu = apuTick^[n] s.apu
  | 0, _ => rfl
  | n + 1, s => State.ticks_apu n s.tick

/-- What a cycle leaves alone, `n` cycles leave alone. -/
theorem State.ticks_view {α : Type} {F : State → α} (hF : ∀ s, F s.tick = F s) : ∀ (n : Nat) (s : State),
    F (State.ticks n s) = F s
  | 0, _ => rfl
  | n + 1, s => (State.ticks_view hF n s.tick).trans (hF s)

theorem State.ticks_oamAddr (n : Nat) (s : State) : (State.ticks n s).ppu.oamAddr = s.ppu.oamAddr :=
  State.ticks_view (F := fun u => u.ppu.oamAddr) (fun u => by simp) n s

theorem State.ticks_byteAt (n : Nat) (s : State) (a : Word) : (State.ticks n s).byteAt a = s.byteAt a := by
  obtain ⟨hbyte, _⟩ := State.ticks_same n s
  exact hbyte a

/-! ### OAM DMA from plain storage -/

/-- The byte `b` stored through OAMDATA, without its cycle (R256). -/
def State.storeOam (s : State) (b : Byte) : State := { s with ppu := oamWrite s.ppu b }

/-- A write cycle to OAMDATA stores at OAMADDR and moves it on (R251, R256). -/
theorem State.write_oamData (s : State) (b : Byte) : s.write 0x2004 b = s.tick.storeOam b :=
  s.write_ppuPort b (by decide) (by decide)

theorem State.byteAt_storeOam (s : State) (b : Byte) (a : Word) : (s.storeOam b).byteAt a = s.byteAt a :=
  State.byteAt_congr s (s.storeOam b) rfl rfl a

/-- `n` bytes copied to OAM: two cycles and a store for each. -/
def copyToOam (byte : Nat → Byte) (s : State) : Nat → State
  | 0 => s
  | n + 1 => (copyToOam byte s n).tick.tick.storeOam (byte n)

section Copy

variable {α : Type} {F : State → α} {byte : Nat → Byte} {s : State}

/-- What a cycle and a store to OAM leave alone, the copy leaves alone. -/
theorem copyToOam_view (hF : ∀ s, F s.tick = F s) (hS : ∀ s b, F (State.storeOam s b) = F s) : ∀ n,
    F (copyToOam byte s n) = F s
  | 0 => rfl
  | n + 1 => by rw [copyToOam, hS, hF, hF, copyToOam_view hF hS n]

theorem copyToOam_byteAt (n : Nat) (a : Word) : (copyToOam byte s n).byteAt a = s.byteAt a :=
  copyToOam_view (F := fun u => u.byteAt a) (fun u => u.byteAt_tick a) (fun u b => u.byteAt_storeOam b a) n

/-- Reads of plain storage have no side effect, so a DMA from a page in plain storage is a copy. -/
theorem foldl_dmaPair_plain {page : Byte} (h : ∀ k, k < 256 → s.byteAt (pageAddr page k) = some (byte k)) :
    ∀ n, n ≤ 256 → (List.range n).foldl (dmaPair page) s = copyToOam byte s n
  | 0, _ => rfl
  | n + 1, hn => by
    have hb : (copyToOam byte s n).byteAt (BitVec.ofNat 16 (256 * page.toNat + n)) = some (byte n) := by
      rw [copyToOam_byteAt, ← pageAddr_eq page hn, h n hn]
    rw [List.range_succ, List.foldl_append, foldl_dmaPair_plain h n (by omega), List.foldl_cons, List.foldl_nil,
      dmaPair, State.read_plain_eq hb, State.write_oamData, copyToOam]

/-- To the audio unit the copy is its cycles. -/
theorem copyToOam_apu : ∀ n, (copyToOam byte s n).apu = (State.ticks (2 * n) s).apu
  | 0 => rfl
  | n + 1 => by
    rw [Nat.mul_succ, State.ticks_succ, State.ticks_succ, State.tick_apu, State.tick_apu, ← copyToOam_apu n]
    rfl

theorem copyToOam_oamAddr : ∀ n, (copyToOam byte s n).ppu.oamAddr = s.ppu.oamAddr + BitVec.ofNat 8 n
  | 0 => (BitVec.add_zero _).symm
  | n + 1 => by
    have ht : (copyToOam byte s (n + 1)).ppu.oamAddr = (copyToOam byte s n).ppu.oamAddr + 1 := by
      simp [copyToOam, State.storeOam, oamWrite]
    rw [ht, copyToOam_oamAddr n, BitVec.add_assoc, BitVec.ofNat_add]
    rfl

theorem copyToOam_oam_succ (n : Nat) : (copyToOam byte s (n + 1)).ppu.oam =
    (copyToOam byte s n).ppu.oam.write ((s.ppu.oamAddr.toNat + n) % 256) (byte n) := by
  have ha : (copyToOam byte s n).ppu.oamAddr.toNat = (s.ppu.oamAddr.toNat + n) % 256 := by
    rw [copyToOam_oamAddr]
    simp
  rw [← ha]
  simp [copyToOam, State.storeOam, oamWrite]

/-- The copy fills `n` bytes from OAMADDR on, wrapping; no store meets an earlier one (R44, R256). -/
theorem copyToOam_oam : ∀ n, n ≤ 256 → ∀ k, k < n →
    (copyToOam byte s n).ppu.oam.read ((s.ppu.oamAddr.toNat + k) % 256) = byte k
  | 0, _, k, hk => absurd hk (Nat.not_lt_zero k)
  | n + 1, hn, k, hk => by
    rw [copyToOam_oam_succ]
    obtain hlt | rfl := Nat.lt_succ_iff_lt_or_eq.1 hk
    · rw [Memory.read_write_other _ (by omega), copyToOam_oam n (by omega) k hlt]
    · exact Memory.read_write_self _ _ _

end Copy

/-! ### Dots with rendering disabled -/

/-- The side `h` is `g` apart from OAM and OAMADDR. -/
def SameApartFromOam (g h : PpuSide) : Prop :=
  h = { g with ppu := { g.ppu with oam := h.ppu.oam, oamAddr := h.ppu.oamAddr } }

theorem timedEvents_withOam (u : Ppu) (m : Memory) (a : Byte) :
    timedEvents { u with oam := m, oamAddr := a } = { timedEvents u with oam := m, oamAddr := a } := by
  unfold timedEvents vblankOnset
  dsimp only
  split_ifs <;> rfl

theorem advanceDot_withOam (re : Bool) (u : Ppu) (m : Memory) (a : Byte) :
    advanceDot re { u with oam := m, oamAddr := a } = { advanceDot re u with oam := m, oamAddr := a } := by
  unfold advanceDot
  dsimp only
  split_ifs <;> rfl

/-- With rendering disabled a dot is its timed events and the move to the next dot (R262). -/
theorem ppuTick_dark {g : PpuSide} (hd : g.ppu.rendering = false) :
    ppuTick g = { g with ppu := advanceDot false (timedEvents g.ppu) } := by
  rw [ppuTick, hd]
  rfl

theorem ppuTick_rendering (g : PpuSide) : (ppuTick g).ppu.rendering = g.ppu.rendering := by
  rw [Ppu.rendering, ppuTick_mask]
  rfl

/-- With rendering disabled a dot neither reads OAM nor changes it. -/
theorem SameApartFromOam.dot {g h : PpuSide} (hs : SameApartFromOam g h) (hd : g.ppu.rendering = false) :
    SameApartFromOam (ppuTick g) (ppuTick h) := by
  have hh : h.ppu.rendering = false := by rw [hs]; exact hd
  rw [SameApartFromOam, ppuTick_oam, ppuTick_oamAddr, ppuTick_dark hd, ppuTick_dark hh, hs,
    timedEvents_withOam, advanceDot_withOam]

theorem State.tick_ppuSide (s : State) : s.tick.ppuSide = ppuTick (ppuTick (ppuTick s.ppuSide)) := rfl

theorem State.tick_rendering (s : State) : s.tick.ppu.rendering = s.ppu.rendering := by
  simp only [State.tick_ppu, ppuTick_rendering, State.ppuSide_ppu]

theorem SameApartFromOam.tick {s t : State} (hs : SameApartFromOam s.ppuSide t.ppuSide)
    (hd : s.ppu.rendering = false) : SameApartFromOam s.tick.ppuSide t.tick.ppuSide := by
  have h1 := (ppuTick_rendering s.ppuSide).trans hd
  rw [State.tick_ppuSide, State.tick_ppuSide]
  exact ((hs.dot hd).dot h1).dot ((ppuTick_rendering _).trans h1)

/-- A store to OAM changes nothing else of the picture unit than OAM and OAMADDR. -/
theorem SameApartFromOam.storeOam {s t : State} (hs : SameApartFromOam s.ppuSide t.ppuSide) (b : Byte) :
    SameApartFromOam s.ppuSide (t.storeOam b).ppuSide := by
  have ht : (t.storeOam b).ppuSide = { t.ppuSide with ppu := oamWrite t.ppuSide.ppu b } := rfl
  rw [ht, hs]
  rfl

/-- With rendering disabled the picture unit reads nothing of the cartridge. -/
theorem ppuTick_cart_dark {g : PpuSide} (hd : g.ppu.rendering = false) : (ppuTick g).cart = g.cart := by
  rw [ppuTick_dark hd]

theorem State.tick_cart_dark {s : State} (hd : s.ppu.rendering = false) : s.tick.cart = s.cart := by
  have h1 := (ppuTick_rendering s.ppuSide).trans hd
  have h2 := (ppuTick_rendering (ppuTick s.ppuSide)).trans h1
  rw [State.tick_cart, ppuTick_cart_dark h2, ppuTick_cart_dark h1]
  exact ppuTick_cart_dark hd

theorem State.ticks_rendering (n : Nat) (s : State) : (State.ticks n s).ppu.rendering = s.ppu.rendering :=
  State.ticks_view (F := fun u => u.ppu.rendering) State.tick_rendering n s

theorem State.ticks_cart_dark {s : State} (hd : s.ppu.rendering = false) : ∀ n, (State.ticks n s).cart = s.cart
  | 0 => rfl
  | n + 1 => by
    rw [State.ticks_succ, State.tick_cart_dark ((State.ticks_rendering n s).trans hd), State.ticks_cart_dark hd n]

/-- With rendering disabled the picture unit makes the dots of the copy's cycles and nothing more. -/
theorem copyToOam_dark {byte : Nat → Byte} {s : State} (hd : s.ppu.rendering = false) : ∀ n,
    SameApartFromOam (State.ticks (2 * n) s).ppuSide (copyToOam byte s n).ppuSide
  | 0 => rfl
  | n + 1 => by
    have h0 := (State.ticks_rendering (2 * n) s).trans hd
    rw [Nat.mul_succ, State.ticks_succ, State.ticks_succ, copyToOam]
    exact (((copyToOam_dark hd n).tick h0).tick ((State.tick_rendering _).trans h0)).storeOam _

/-! ### The write to $4014 -/

section DmaPort

variable {s : State} {page : Byte} {byte : Nat → Byte}
  (h : ∀ k, k < 256 → s.byteAt (pageAddr page k) = some (byte k))

include h

/-- From a page in plain storage: the write cycle, the wait and the copy. -/
theorem State.write_dmaPort_plain :
    s.write 0x4014 page = copyToOam byte (State.ticks (2 + (s.cycle + 1) % 2) s) 256 := by
  rw [State.write_dmaPort_eq_foldl, foldl_dmaPair_plain (fun k hk => ?_) 256 (Nat.le_refl 256)]
  rw [State.ticks_byteAt, h k hk]

/-- What a cycle and a store to OAM leave alone, the DMA leaves alone. -/
theorem State.write_dmaPort_view {α : Type} {F : State → α} (hF : ∀ s, F s.tick = F s)
    (hS : ∀ s b, F (State.storeOam s b) = F s) : F (s.write 0x4014 page) = F s := by
  rw [State.write_dmaPort_plain h, copyToOam_view hF hS, State.ticks_view hF]

/-- OAMADDR makes one full turn. -/
theorem State.write_dmaPort_oamAddr : (s.write 0x4014 page).ppu.oamAddr = s.ppu.oamAddr := by
  rw [State.write_dmaPort_plain h, copyToOam_oamAddr, State.ticks_oamAddr]
  exact BitVec.add_zero _

theorem State.write_dmaPort_oam {k : Nat} (hk : k < 256) :
    (s.write 0x4014 page).ppu.oam.read ((s.ppu.oamAddr.toNat + k) % 256) = byte k := by
  rw [State.write_dmaPort_plain h, ← State.ticks_oamAddr (2 + (s.cycle + 1) % 2) s]
  exact copyToOam_oam 256 (Nat.le_refl 256) k hk

theorem State.write_dmaPort_apu :
    (s.write 0x4014 page).apu = apuTick^[514 + (s.cycle + 1) % 2] s.apu := by
  rw [State.write_dmaPort_plain h, copyToOam_apu, State.ticks_ticks, State.ticks_apu, ← Nat.add_assoc]

theorem State.write_dmaPort_dark (hd : s.ppu.rendering = false) :
    SameApartFromOam (State.ticks (514 + (s.cycle + 1) % 2) s).ppuSide (s.write 0x4014 page).ppuSide := by
  have hcopy := copyToOam_dark (byte := byte) ((State.ticks_rendering (2 + (s.cycle + 1) % 2) s).trans hd) 256
  rw [State.ticks_ticks, ← Nat.add_assoc, ← State.write_dmaPort_plain h] at hcopy
  exact hcopy

end DmaPort

/-- What neither a cycle nor a store to OAM changes: work RAM, the controllers, the log, a `FLAT32`, the CPU's
registers, and the picture unit's other memories and port registers. -/
def State.keptByDma (s : State) :=
  ((s.ram, s.pads, s.log, s.cart.flat), (s.a, s.x, s.y, s.sp, s.p, s.pc),
    (s.ppu.vram, s.ppu.pal, s.ppu.ctrl, s.ppu.mask), s.ppu.t, s.ppu.x, s.ppu.w, s.ppu.readBuffer)

theorem State.tick_keptByDma (s : State) : s.tick.keptByDma = s.keptByDma := by
  simp [State.keptByDma]

/-- STA absolute to the port is the write cycle, and then goes on (R44, R103). -/
theorem exec_staAbs_dmaPort (s : State) :
    exec (.staAbs 0x4014) s = .next { s.write 0x4014 s.a with pc := s.pc + 3 } := by
  rw [exec_eq, ← State.write_pc s 0x4014 s.a]
  rfl

theorem Mapper.eq_flat32 {c : Mapper} {f : Flat32} (h : c.flat = some f) : c = .flat32 f := by
  cases c with
  | flat32 g => exact congrArg Mapper.flat32 (Option.some.inj h)
  | custom st => contradiction

/-- Settles O43: the DMA is a fold of bus cycles; from a page in plain storage it is a copy, which is followed byte by
byte, and which dots with rendering disabled do not see. -/
theorem oamDmaCopiesThePage : Obligations.OamDmaCopiesThePage := by
  refine ⟨State.write_dmaPort_eq_foldl, exec_staAbs_dmaPort, fun s page byte h => ?_⟩
  have hkept : (s.write 0x4014 page).keptByDma = s.keptByDma :=
    State.write_dmaPort_view h State.tick_keptByDma fun _ _ => rfl
  have hbyte : ∀ a, (s.write 0x4014 page).byteAt a = s.byteAt a := fun a =>
    State.write_dmaPort_view (F := fun u => u.byteAt a) h (fun u => u.byteAt_tick a) fun u b => u.byteAt_storeOam b a
  have haddr := State.write_dmaPort_oamAddr h
  simp only [State.keptByDma, Prod.mk.injEq] at hkept
  obtain ⟨⟨hram, hpads, hlog, hflat⟩, ⟨ha, hx, hy, hsp, hp, hpc⟩, hppu⟩ := hkept
  obtain ⟨⟨hvram, hpal, hctrl, hmask⟩, ht, hfx, hw, hbuf⟩ := hppu
  refine ⟨fun k hk => State.write_dmaPort_oam h hk, haddr, s.write_dmaPort_cycle page, hbyte, fun f hc => ?_, hram,
    hpads, hlog, State.write_dmaPort_apu h, ha, ⟨hx, hy, hsp⟩, hp, hpc, hvram, hpal, hctrl, hmask, ht, hfx, hw, hbuf,
    fun hd => ?_⟩
  · rw [hc] at hflat ⊢
    exact Mapper.eq_flat32 hflat
  · have hside := State.write_dmaPort_dark h hd
    have hu := congrArg PpuSide.ppu hside
    have hc := congrArg PpuSide.cart hside
    refine ⟨?_, hc.trans (State.ticks_cart_dark hd _)⟩
    dsimp only [State.ppuSide] at hu
    rw [haddr, ← State.ticks_oamAddr (514 + (s.cycle + 1) % 2) s] at hu
    exact hu

end Sys2Proof.Machine
end

section
/-! The family of 30_encoding.md, encoding: the opcode matrix and the list by mnemonic are inverse to each other, and so
are decoder and encoder. -/

namespace Sys2Proof

open Machine

/-! ### The opcode matrix and the list by mnemonic -/

/-- The list by mnemonic gives each instruction the byte at which the opcode matrix has it (R76). -/
theorem fill_shapeOf_opcode (i : Instr) : Laws.Encoding.fill (shapeOf i.opcode) i.operandBytes = some i := by
  cases i <;> dsimp only [Instr.opcode, Instr.operandBytes] <;> rfl

/-- A table by opcode, laid out as the opcode matrix is: row = high nibble, column = low nibble (R76). -/
def matrixOf {α : Type} (g : Byte → α) : List (List α) :=
  (List.range 16).map fun row => (List.range 16).map fun column => g (BitVec.ofNat 8 (16 * row + column))

theorem matrixOf_getD {α : Type} (g : Byte → α) (op : Byte) (d : α) :
    ((matrixOf g).getD (op >>> 4).toNat []).getD (op &&& 0x0F).toNat d = g op := by
  have hrow : (op >>> 4).toNat < 16 := by bv_omega
  have hcolumn : (op &&& 0x0F).toNat < 16 := by
    have : (op &&& 0x0F).toNat ≤ 0x0F := Nat.and_le_right
    omega
  have hop : BitVec.ofNat 8 (16 * (op >>> 4).toNat + (op &&& 0x0F).toNat) = op := by
    revert op
    decide
  generalize (op >>> 4).toNat = row at hrow hop
  generalize (op &&& 0x0F).toNat = column at hcolumn hop
  simp [matrixOf, hrow, hcolumn, hop]

/-- What holds entry by entry of the opcode matrix holds of the entry of every opcode. -/
theorem eq_of_map_opcodeRows {α : Type} {f : Shape → α} {g : Byte → α}
    (h : opcodeRows.map (List.map f) = matrixOf g) (op : Byte) : f (shapeOf op) = g op := by
  rw [shapeOf, ← List.getD_map (f := f), ← List.getD_map (f := List.map f), h]
  exact matrixOf_getD g op _

/-- An opcode's entry with an operand put in, whichever its format takes (R60). -/
def Shape.build (b : Byte) (w : Word) : Shape → Instr
  | .one i => i
  | .two mk => mk b
  | .three mk => mk w

/-- The operand bytes that the format of an opcode's entry takes (R60). -/
def Shape.takes (b : Byte) (w : Word) : Shape → OperandBytes
  | .one _ => .none
  | .two _ => .byte b
  | .three _ => .word w

/-- The opcode matrix has at each byte instructions to which the list by mnemonic gives that byte (R76). -/
theorem opcode_build_shapeOf (op b : Byte) (w : Word) : ((shapeOf op).build b w).opcode = op :=
  eq_of_map_opcodeRows (f := fun sh => (sh.build b w).opcode) (g := id) rfl op

/-- An instruction has the operand bytes that its entry in the opcode matrix takes (R60, R76). -/
theorem operandBytes_build_shapeOf (op b : Byte) (w : Word) :
    ((shapeOf op).build b w).operandBytes = (shapeOf op).takes b w :=
  eq_of_map_opcodeRows (f := fun sh => (sh.build b w).operandBytes) (g := fun op => (shapeOf op).takes b w) rfl op

/-- The opcode matrix has the unknown instructions at the listed bytes (R77). -/
theorem unknown_build_shapeOf (op b : Byte) (w : Word) :
    decide (((shapeOf op).build b w).mnemonic = .uUnk) = (unknownForms.map Prod.snd).contains op :=
  eq_of_map_opcodeRows (f := fun sh => decide ((sh.build b w).mnemonic = .uUnk))
    (g := (unknownForms.map Prod.snd).contains) rfl op

/-! ### Decoder and encoder -/

/-- The bytes at the head of `bytes` are the instruction `i`, and `rest` is left over: one case per format (R60). -/
inductive Decodes : List Byte → Instr → List Byte → Prop where
  | one {op : Byte} {i : Instr} {rest : List Byte} (h : shapeOf op = .one i) : Decodes (op :: rest) i rest
  | two {op b : Byte} {mk : Byte → Instr} {rest : List Byte} (h : shapeOf op = .two mk) :
    Decodes (op :: b :: rest) (mk b) rest
  | three {op lo hi : Byte} {mk : Word → Instr} {rest : List Byte} (h : shapeOf op = .three mk) :
    Decodes (op :: lo :: hi :: rest) (mk (wordOf lo hi)) rest

theorem Decodes.decode_eq {bytes rest : List Byte} {i : Instr} (h : Decodes bytes i rest) :
    decode bytes = .ok (i, rest) := by
  cases h with
  | one h | two h | three h => simp only [decode, h]

theorem decodes_of_decode {bytes rest : List Byte} {i : Instr} (h : decode bytes = .ok (i, rest)) :
    Decodes bytes i rest := by
  unfold decode at h
  split at h
  · contradiction
  · split at h <;> cases h
    · exact .one ‹_›
    · exact .two ‹_›
    · exact .three ‹_›

/-- An encoded instruction is its opcode's entry with the operand bytes put back. -/
theorem decodes_encode (i : Instr) (rest : List Byte) : Decodes (encode i ++ rest) i rest := by
  have hfill := fill_shapeOf_opcode i
  unfold encode
  cases ho : i.operandBytes <;> cases hs : shapeOf i.opcode <;> rw [ho, hs] at hfill <;> cases hfill
  case none.one.refl => exact .one hs
  case byte.two.refl => exact .two hs
  case word.three.refl w mk =>
    have h := Decodes.three (lo := loByte w) (hi := hiByte w) (rest := rest) hs
    rwa [wordOf_lo_hi] at h

/-- The encoding of what an opcode's entry is filled to: as many bytes as the opcode says. -/
theorem encode_build_shapeOf (op lo hi : Byte) :
    encode ((shapeOf op).build lo (wordOf lo hi)) = [op, lo, hi].take (opcodeLength op) := by
  rw [encode, operandBytes_build_shapeOf, opcode_build_shapeOf, opcodeLength]
  cases shapeOf op <;> simp [Shape.takes]

/-- Bytes that are an instruction are its encoding. -/
theorem Decodes.eq_encode {bytes rest : List Byte} {i : Instr} (h : Decodes bytes i rest) :
    bytes = encode i ++ rest := by
  cases h with
  | @one op i _ h =>
    have he := encode_build_shapeOf op 0 0
    rw [opcodeLength, h] at he
    exact congrArg (· ++ rest) he.symm
  | @two op b mk _ h =>
    have he := encode_build_shapeOf op b 0
    rw [opcodeLength, h] at he
    exact congrArg (· ++ rest) he.symm
  | @three op lo hi mk _ h =>
    have he := encode_build_shapeOf op lo hi
    rw [opcodeLength, h] at he
    exact congrArg (· ++ rest) he.symm

/-- Three bytes decode to the entry of the first, whatever its format. -/
theorem decodes_build_shapeOf (op lo hi : Byte) :
    Decodes [op, lo, hi] ((shapeOf op).build lo (wordOf lo hi)) ([op, lo, hi].drop (opcodeLength op)) := by
  rw [opcodeLength]
  cases h : shapeOf op with
  | one i => exact .one h
  | two mk => exact .two h
  | three mk => exact .three h

/-- Settles O1: each format's operand bytes fill the entry of the opcode again. -/
theorem encodeThenDecodeGivesTheInstruction : Obligations.EncodeThenDecodeGivesTheInstruction :=
  fun i rest _ => (decodes_encode i rest).decode_eq

/-- Settles O2: the entry that the bytes fill is encoded as them; every instruction is well formed. -/
theorem decodeThenEncodeGivesTheBytes : Obligations.DecodeThenEncodeGivesTheBytes :=
  fun _ _ i h => ⟨(decodes_of_decode h).eq_encode, i.wellFormed_all⟩

theorem opcodeLength_bounds (op : Byte) : 1 ≤ opcodeLength op ∧ opcodeLength op ≤ 3 := by
  rw [opcodeLength]
  cases shapeOf op <;> simp

/-- Settles O3: three bytes fill the entry of the first, and the matrix has the unknown instructions where they are
listed. -/
theorem everyByteStartsAnInstruction : Obligations.EveryByteStartsAnInstruction := by
  refine ⟨fun op b1 b2 => ?_, opcodeLength_bounds, rfl, fun i op h => ?_⟩
  · refine ⟨_, (decodes_build_shapeOf op b1 b2).decode_eq, opcode_build_shapeOf op b1 _, ?_⟩
    have hu := unknown_build_shapeOf op b1 (wordOf b1 b2)
    rwa [List.contains_eq_mem, decide_eq_decide] at hu
  · have hall : ∀ e ∈ unknownForms, encode e.1 = [e.2] := by decide
    exact hall (i, op) h

end Sys2Proof
end

section
/-! The family of 30_encoding.md, the step and the operands: the step runs what its bytes decode to; the addressing
modes in integers; the branches. -/

namespace Sys2Proof.Machine

/-! ### The step -/

theorem step_eq_exec_fetch {s : State} (h : s.ppu.pendingNmi = false) : step s = exec (fetch s).1 (fetch s).2 := by
  rw [step, if_neg (by simp [h])]

/-- The fetch of one byte, by its read cycle (R51, R61). -/
theorem fetch_one {s : State} {i : Instr} (h : Decodes [(s.read s.pc).1] i []) : fetch s = (i, (s.read s.pc).2) := by
  cases h with
  | one h => rw [fetch, h]

/-- The fetch of two bytes, by their read cycles (R51, R61). -/
theorem fetch_two {s : State} {i : Instr} :
    let op := s.read s.pc
    let b1 := op.2.read (s.pc + 1)
    Decodes [op.1, b1.1] i [] → fetch s = (i, b1.2) := by
  intro op b1 h
  cases h with
  | two h => rw [fetch, h]

/-- The fetch of three bytes, by their read cycles (R51, R61). -/
theorem fetch_three {s : State} {i : Instr} :
    let op := s.read s.pc
    let b1 := op.2.read (s.pc + 1)
    let b2 := b1.2.read (s.pc + 2)
    Decodes [op.1, b1.1, b2.1] i [] → fetch s = (i, b2.2) := by
  intro op b1 b2 h
  cases h with
  | three h => rw [fetch, h]

/-- From plain storage the fetch is a cycle for each byte: reads there have no side effect (R36). -/
theorem fetch_plain {s : State} {i : Instr} {bytes : List Byte} (h : Decodes bytes i [])
    (hb : ∀ k b, bytes[k]? = some b → s.byteAt (s.pc + BitVec.ofNat 16 k) = some b) :
    fetch s = (i, State.ticks bytes.length s) := by
  have h0 : ∀ b, bytes[0]? = some b → s.read s.pc = (b, s.tick) := fun b hk =>
    State.read_plain_eq (by simpa using hb 0 b hk)
  have h1 : ∀ b, bytes[1]? = some b → s.tick.read (s.pc + 1) = (b, s.tick.tick) := fun b hk =>
    State.read_plain_eq (by simpa using hb 1 b hk)
  have h2 : ∀ b, bytes[2]? = some b → s.tick.tick.read (s.pc + 2) = (b, s.tick.tick.tick) := fun b hk =>
    State.read_plain_eq (by simpa using hb 2 b hk)
  cases h with
  | one h => simp only [fetch, h0 _ rfl, h]; rfl
  | two h => simp only [fetch, h0 _ rfl, h1 _ rfl, h]; rfl
  | three h => simp only [fetch, h0 _ rfl, h1 _ rfl, h2 _ rfl, h]; rfl

/-- Settles O5: the fetch in each format, and the fetch from plain storage. -/
theorem stepRunsTheDecodedInstruction : Obligations.StepRunsTheDecodedInstruction := by
  intro s i hnmi
  have hstep {r : State} (hf : fetch s = (i, r)) : step s = exec i r := by rw [step_eq_exec_fetch hnmi, hf]
  exact ⟨fun h => hstep (fetch_one (decodes_of_decode h)), fun h => hstep (fetch_two (decodes_of_decode h)),
    fun h => hstep (fetch_three (decodes_of_decode h)), fun _ h hb => hstep (fetch_plain (decodes_of_decode h) hb)⟩

/-! ### The addressing modes -/

theorem zext16_toNat (b : Byte) : (zext16 b).toNat = b.toNat := BitVec.toNat_setWidth_of_le (by decide)

/-- The helper of an indirect mode reads the word of page zero (R71, R72). -/
theorem zeroPagePointer_fst (p : Byte) (s : State) : (zeroPagePointer p s).1 = zeroPageWord s p := by
  rw [zeroPagePointer, zeroPageWord, State.read_ram_byte _ _ (regionOf_zeroPage _),
    State.read_ram_byte _ _ (regionOf_zeroPage _), State.read_ram, ramIndex_zeroPage, ramIndex_zeroPage]

theorem zeroPagePointer_cycle (p : Byte) (s : State) : (zeroPagePointer p s).2.cycle = s.cycle + 2 := by
  simp [zeroPagePointer]

theorem zeroPageWord_tick (s : State) (p : Byte) : zeroPageWord s.tick p = zeroPageWord s p := rfl

/-- The pointer wraps inside page zero (R43). -/
theorem zeroPageWord_toNat (s : State) (p : Byte) : (zeroPageWord s p).toNat =
    (s.ram.read p.toNat).toNat + 256 * (s.ram.read ((p.toNat + 1) % 256)).toNat := by
  rw [zeroPageWord, wordOf_toNat, BitVec.toNat_add]
  rfl

theorem indexed_fst_toNat (u : Use) (base : Word) (i : Byte) (s : State) :
    (indexed u base i s).1.toNat = (base.toNat + i.toNat) % 65536 := by
  rw [indexed, BitVec.toNat_add, zext16_toNat]

theorem indexed_cycle (u : Use) (base : Word) (i : Byte) (s : State) :
    (indexed u base i s).2.cycle = s.cycle + if u = .writeType ∨ pageCross base i then 1 else 0 := by
  rw [indexed]
  split_ifs <;> rfl

/-- The index carries out of the low byte exactly when the high byte changes (R69, D19). -/
theorem pageCross_eq (base : Word) (i : Byte) : pageCross base i = decide (hiByte (base + zext16 i) ≠ hiByte base) := by
  have hb := base.isLt
  have hi := i.isLt
  rw [pageCross, decide_eq_decide, Ne, ← BitVec.toNat_inj, hiByte_toNat, hiByte_toNat, loByte_toNat, BitVec.toNat_add,
    zext16_toNat]
  omega

/-- The cycles of a mode's helper after the operand bytes (R64 to R72). -/
def helperCycles (u : Use) (o : Operand) (s : State) : Nat :=
  match o with
  | .imm _ | .zp _ | .abs _ => 0
  | .zpx _ | .zpy _ => 1
  | .izx _ => 3
  | .abx w => if u = .writeType ∨ pageCross w s.x then 1 else 0
  | .aby w => if u = .writeType ∨ pageCross w s.y then 1 else 0
  | .izy b => if u = .writeType ∨ pageCross (zeroPageWord s b) s.y then 3 else 2

theorem effAddr_cycle (u : Use) (o : Operand) (s : State) : (effAddr u o s).2.cycle = s.cycle + helperCycles u o s := by
  cases o with
  | imm | zp | abs | zpx | zpy => rfl
  | abx | aby => exact indexed_cycle _ _ _ _
  | izx b => exact zeroPagePointer_cycle (b + s.x) s.tick
  | izy b =>
    simp only [effAddr, helperCycles, indexed_cycle, zeroPagePointer_fst, zeroPagePointer_y, zeroPagePointer_cycle]
    split_ifs <;> rfl

/-- Settles O17: what the two pieces, an index and a zero-page pointer, do to address and clock. -/
theorem effectiveAddresses : Obligations.EffectiveAddresses := by
  refine ⟨fun u b w s => ?_, fun u o s => ?_, fun o s h => ?_, zeroPageWord_toNat, pageCross_eq⟩
  · have hzpx : (zext16 (b + s.x)).toNat = (b.toNat + s.x.toNat) % 256 := by rw [zext16_toNat, BitVec.toNat_add]
    have hzpy : (zext16 (b + s.y)).toNat = (b.toNat + s.y.toNat) % 256 := by rw [zext16_toNat, BitVec.toNat_add]
    refine ⟨rfl, rfl, zext16_toNat b, hzpx, hzpy, rfl, indexed_fst_toNat u w s.x s, indexed_fst_toNat u w s.y s, ?_, ?_⟩
    · rw [effAddr, zeroPagePointer_fst, zeroPageWord_tick, zeroPageWord_toNat, BitVec.toNat_add, Nat.mod_add_mod]
    · rw [effAddr, indexed_fst_toNat, zeroPagePointer_fst, zeroPageWord_toNat, zeroPagePointer_y]
  · exact ⟨effAddr_cycle u o s, effAddr_same u o s, effAddr_a u o s,
      ⟨effAddr_x u o s, effAddr_y u o s, effAddr_sp u o s⟩, effAddr_p u o s, effAddr_pc u o s⟩
  · cases o with
    | imm b => exact absurd rfl (h b)
    | _ => rfl

/-! ### Branches -/

theorem branchNext_toNat (pc : Word) : (branchNext pc).toNat = (pc.toNat + 2) % 65536 := BitVec.toNat_add _ _

/-- The target of a branch in integers: the offset is signed (R73). -/
theorem branchTarget_toNat (pc : Word) (b : Byte) :
    ((branchTarget pc b).toNat : Int) = (pc.toNat + 2 + b.toInt) % 65536 := by
  have hoff : ((sext16 b).toNat : Int) = b.toInt % 65536 := by
    rw [sext16, BitVec.signExtend, BitVec.toNat_ofInt, Int.toNat_of_nonneg (Int.emod_nonneg _ (by decide))]
    rfl
  rw [branchTarget, BitVec.toNat_add, branchNext_toNat]
  omega

/-- A branch not taken goes to the next instruction and takes no cycle (R164). -/
theorem branch_not_taken {f : Nat} {v : Bool} {s : State} (b : Byte) (h : s.p.getLsbD f ≠ v) :
    branch f v b s = { s with pc := branchNext s.pc } := if_neg h

/-- The cycles of a taken branch: two when the target lies in another page than the next instruction (R164, D8). -/
def takenCycles (pc : Word) (b : Byte) : Nat := if hiByte (branchTarget pc b) = hiByte (branchNext pc) then 1 else 2

theorem branch_taken {f : Nat} {v : Bool} {s : State} (b : Byte) (h : s.p.getLsbD f = v) :
    branch f v b s = { State.ticks (takenCycles s.pc b) s with pc := branchTarget s.pc b } := by
  simp only [branch, if_pos h, takenCycles, ite_not]
  split_ifs <;> rfl

/-- Internal cycles and a jump: of the CPU only `PC` changes, and no memory does. -/
theorem ticks_jump (n : Nat) (s : State) (pc : Word) :
    let t : State := { State.ticks n s with pc := pc }
    t.a = s.a ∧ SameXYS s t ∧ t.p = s.p ∧ Quiet s (State.ticks n s) t :=
  ⟨State.ticks_view State.tick_a n s,
    ⟨State.ticks_view State.tick_x n s, State.ticks_view State.tick_y n s, State.ticks_view State.tick_sp n s⟩,
    State.ticks_view State.tick_p n s, .of_outside (State.ticks_same n s) (.of_update _ _ _ _ _ _ _)⟩

/-- What a branch does, whichever flag it tests (R73, R164). -/
theorem branch_spec (f : Nat) (v : Bool) (b : Byte) (s : State) :
    let t := branch f v b s
    t.a = s.a ∧ SameXYS s t ∧ t.p = s.p ∧
      (s.p.getLsbD f ≠ v → t.pc.toNat = (s.pc.toNat + 2) % 65536 ∧ Quiet s s t) ∧
      (s.p.getLsbD f = v → (t.pc.toNat : Int) = (s.pc.toNat + 2 + b.toInt) % 65536 ∧
        Quiet s (State.ticks (if hiByte t.pc = hiByte (s.pc + 2) then 1 else 2) s) t) := by
  intro t
  by_cases h : s.p.getLsbD f = v
  · obtain ⟨ha, hxys, hp, hquiet⟩ := ticks_jump (takenCycles s.pc b) s (branchTarget s.pc b)
    have ht : t = _ := branch_taken b h
    rw [ht]
    exact ⟨ha, hxys, hp, fun hn => absurd h hn, fun _ => ⟨branchTarget_toNat s.pc b, hquiet⟩⟩
  · obtain ⟨ha, hxys, hp, hquiet⟩ := ticks_jump 0 s (branchNext s.pc)
    have ht : t = _ := branch_not_taken b h
    rw [ht]
    exact ⟨ha, hxys, hp, fun _ => ⟨branchNext_toNat s.pc, hquiet⟩, fun hv => absurd hv h⟩

/-- Settles O33: the eight rows are one operation, with the flag and the value that it tests. -/
theorem branchesTestOneFlag : Obligations.BranchesTestOneFlag := by
  intro i op s f v b hi
  have hrow : encode i = [op, b] ∧ exec i s = .next (branch f v b s) := by
    simp only [List.mem_cons, List.not_mem_nil, or_false] at hi
    rcases hi with h | h | h | h | h | h | h | h <;> cases h <;> exact ⟨rfl, rfl⟩
  exact ⟨hrow.1, _, hrow.2, branch_spec f v b s⟩

end Sys2Proof.Machine
end

section
/-! The family of 40_load_store_transfer.md: which bytes a mnemonic's forms have, for every mnemonic with a memory
operand; what is left when an instruction writes registers after its bus cycles; loads, stores and transfers. -/

namespace Sys2Proof.Machine

/-! ### Encodings by addressing mode -/

/-- Two instructions with the same bytes are one: the bytes decode to both. -/
theorem encode_injective : Function.Injective encode := by
  intro i j h
  have hi := (decodes_encode i []).decode_eq
  have hj := (decodes_encode j []).decode_eq
  rw [h, hj] at hi
  cases hi
  rfl

/-- In a table that has at most one opcode for each mode, an entry is what the look-up finds. -/
theorem mem_modes_iff_lookup {modes : List (Mode × Byte)} (h : ∀ e ∈ modes, modes.lookup e.1 = some e.2) (m : Mode)
    (op : Byte) : (m, op) ∈ modes ↔ modes.lookup m = some op := by
  refine ⟨h (m, op), fun hl => ?_⟩
  obtain ⟨l₁, l₂, rfl, _⟩ := List.lookup_eq_some_iff.1 hl
  simp

/-- A mnemonic has the encodings `modes` when each of its forms has the bytes that the look-up in `modes` gives (R76):
no other instruction has these bytes. -/
theorem encodedBy_of_lookup {form : Operand → Option Instr} {modes : List (Mode × Byte)}
    (hkeys : ∀ e ∈ modes, modes.lookup e.1 = some e.2)
    (hbytes : ∀ o, (form o).map encode = (modes.lookup o.mode).map (· :: o.bytes)) : EncodedBy form modes := by
  intro o i
  have hform : form o = some i ↔ (form o).map encode = some (encode i) :=
    (Option.map_injective encode_injective).eq_iff.symm
  rw [hform, hbytes, Option.map_eq_some_iff]
  simp only [mem_modes_iff_lookup hkeys, eq_comm]

/-! ### Register writes after the bus cycles -/

/-- Bus cycles that keep the memories, `P` and `PC`, then registers written, `N` and `Z` set from `v`, and the
instruction passed (R7, R11). -/
theorem setNZ_advance_spec {s r : State} (hmem : SameMemory s r) (hp : r.p = s.p) (hpc : r.pc = s.pc)
    (a x y sp v : Byte) (n : Nat) :
    let t := ({ r with a := a, x := x, y := y, sp := sp, p := setNZ r.p v } : State).advance n
    NZFrom s.p v t.p ∧ t.pc = s.pc + BitVec.ofNat 16 n ∧ Quiet s r t := by
  intro t
  refine ⟨?_, ?_, .of_outside hmem (.of_update _ _ _ _ _ _ _)⟩
  · rw [← hp]
    exact nzFrom_setNZ r.p v
  · rw [← hpc]
    rfl

/-! ### Loads -/

theorem exec_ldaForm {o : Operand} {i : Instr} (h : ldaForm o = some i) (s : State) :
    exec i s = .next (loadA o s) := by
  cases o <;> cases h <;> rfl

theorem exec_ldxForm {o : Operand} {i : Instr} (h : ldxForm o = some i) (s : State) :
    exec i s = .next (loadX o s) := by
  cases o <;> cases h <;> rfl

theorem exec_ldyForm {o : Operand} {i : Instr} (h : ldyForm o = some i) (s : State) :
    exec i s = .next (loadY o s) := by
  cases o <;> cases h <;> rfl

/-- What an instruction leaves that reads its operand, writes registers, and takes `N` and `Z` from `v` (R75). -/
theorem readOp_setNZ_spec (o : Operand) (s : State) (a x y sp v : Byte) :
    let m := readOp o s
    let t := ({ m.2 with a := a, x := x, y := y, sp := sp, p := setNZ m.2.p v } : State).advance o.len
    NZFrom s.p v t.p ∧ t.pc = s.pc + BitVec.ofNat 16 o.len ∧ Quiet s m.2 t :=
  setNZ_advance_spec (readOp_same o s) (readOp_p o s) (readOp_pc o s) a x y sp v o.len

/-- Settles O21: the forms of each mnemonic, and one operand read with register writes after it. -/
theorem loadsMoveTheOperand : Obligations.LoadsMoveTheOperand := by
  refine ⟨?lda, ?ldx, ?ldy, fun o i s => ?_⟩
  case lda | ldx | ldy => exact encodedBy_of_lookup (by decide) fun o => by cases o <;> rfl
  intro m
  refine ⟨fun h => ?_, fun h => ?_, fun h => ?_⟩
  · obtain ⟨hnz, hpc, hquiet⟩ := readOp_setNZ_spec o s m.1 m.2.x m.2.y m.2.sp m.1
    exact ⟨_, exec_ldaForm h s, rfl, hnz, ⟨readOp_x o s, readOp_y o s, readOp_sp o s⟩, hpc, hquiet⟩
  · obtain ⟨hnz, hpc, hquiet⟩ := readOp_setNZ_spec o s m.2.a m.1 m.2.y m.2.sp m.1
    exact ⟨_, exec_ldxForm h s, rfl, hnz, readOp_a o s, readOp_y o s, readOp_sp o s, hpc, hquiet⟩
  · obtain ⟨hnz, hpc, hquiet⟩ := readOp_setNZ_spec o s m.2.a m.2.x m.1 m.2.sp m.1
    exact ⟨_, exec_ldyForm h s, rfl, hnz, readOp_a o s, readOp_x o s, readOp_sp o s, hpc, hquiet⟩

/-! ### Stores -/

theorem exec_staForm {o : Operand} {i : Instr} (h : staForm o = some i) (s : State) :
    exec i s = .next (storeA o s) := by
  cases o <;> cases h <;> rfl

theorem exec_stxForm {o : Operand} {i : Instr} (h : stxForm o = some i) (s : State) :
    exec i s = .next (storeX o s) := by
  cases o <;> cases h <;> rfl

theorem exec_styForm {o : Operand} {i : Instr} (h : styForm o = some i) (s : State) :
    exec i s = .next (storeY o s) := by
  cases o <;> cases h <;> rfl

/-- What an instruction leaves that writes `v` to its operand and nothing else (R75). -/
theorem writeOp_advance_spec (o : Operand) (v : Byte) (s : State) :
    let e := effAddr .writeType o s
    let t := (writeOp o v s).advance o.len
    t.a = s.a ∧ SameXYS s t ∧ t.p = s.p ∧ t.pc = s.pc + BitVec.ofNat 16 o.len ∧
      Stored s (e.2.write e.1 v) t e.1 v := by
  intro e t
  have hpc : t.pc = (writeOp o v s).pc + BitVec.ofNat 16 o.len := rfl
  rw [writeOp_pc] at hpc
  exact ⟨writeOp_a o v s, ⟨writeOp_x o v s, writeOp_y o v s, writeOp_sp o v s⟩, writeOp_p o v s, hpc,
    .of_outside (effAddr_same .writeType o s) (.of_update _ _ _ _ _ _ _)⟩

/-- Settles O22: the forms of each mnemonic, and the three stores are one, of the byte that the register holds. -/
theorem storesWriteTheRegister : Obligations.StoresWriteTheRegister := by
  refine ⟨?sta, ?stx, ?sty, fun o i s v h => ?_⟩
  case sta | stx | sty => exact encodedBy_of_lookup (by decide) fun o => by cases o <;> rfl
  have hexec : exec i s = .next ((writeOp o v s).advance o.len) := by
    rcases h with ⟨h, rfl⟩ | ⟨h, rfl⟩ | ⟨h, rfl⟩
    · exact exec_staForm h s
    · exact exec_stxForm h s
    · exact exec_styForm h s
  exact ⟨_, hexec, writeOp_advance_spec o v s⟩

/-! ### Transfers -/

/-- What an instruction leaves that takes one cycle, writes registers, and takes `N` and `Z` from `v` (R106 to R110). -/
theorem tick_setNZ_spec (s : State) (a x y sp v : Byte) :
    let t := ({ s.tick with a := a, x := x, y := y, sp := sp, p := setNZ s.tick.p v } : State).advance 1
    NZFrom s.p v t.p ∧ t.pc = s.pc + 1 ∧ Quiet s s.tick t :=
  setNZ_advance_spec s.tick_same s.tick_p s.tick_pc a x y sp v 1

/-- Settles O23: one cycle with register writes after it; TXS writes no flag. -/
theorem transfersCopyARegister : Obligations.TransfersCopyARegister := by
  refine ⟨rfl, fun s => ⟨?_, ?_, ?_, ?_, ?_, ?_⟩⟩
  · obtain ⟨hnz, hpc, hquiet⟩ := tick_setNZ_spec s s.a s.a s.y s.sp s.a
    exact ⟨_, rfl, rfl, hnz, rfl, rfl, rfl, hpc, hquiet⟩
  · obtain ⟨hnz, hpc, hquiet⟩ := tick_setNZ_spec s s.a s.x s.a s.sp s.a
    exact ⟨_, rfl, rfl, hnz, rfl, rfl, rfl, hpc, hquiet⟩
  · obtain ⟨hnz, hpc, hquiet⟩ := tick_setNZ_spec s s.x s.x s.y s.sp s.x
    exact ⟨_, rfl, rfl, hnz, ⟨rfl, rfl, rfl⟩, hpc, hquiet⟩
  · obtain ⟨hnz, hpc, hquiet⟩ := tick_setNZ_spec s s.y s.x s.y s.sp s.y
    exact ⟨_, rfl, rfl, hnz, ⟨rfl, rfl, rfl⟩, hpc, hquiet⟩
  · obtain ⟨hnz, hpc, hquiet⟩ := tick_setNZ_spec s s.a s.sp s.y s.sp s.sp
    exact ⟨_, rfl, rfl, hnz, rfl, rfl, rfl, hpc, hquiet⟩
  · exact ⟨_, rfl, rfl, rfl, rfl, rfl, rfl, rfl, .of_outside s.tick_same (.of_update _ _ _ _ _ _ _)⟩

end Sys2Proof.Machine
end

section
/-! The family of 41_arithmetic_logic.md: what is left when an instruction reads its operand and then writes `A` and
`P`, or writes the operand back changed; arithmetic, logic, compares, increments and decrements. -/

namespace Sys2Proof.Machine

/-! ### Bytes and flags -/

theorem toNat_add_one (b : Byte) : (b + 1).toNat = (b.toNat + 1) % 256 := BitVec.toNat_add b 1

theorem toNat_sub_one (b : Byte) : (b - 1).toNat = (b.toNat + 255) % 256 := by
  rw [BitVec.toNat_sub, Nat.add_comm]
  rfl

/-- The operand of SBC is the complement of the byte read (R121). -/
theorem sbcOperand_eq_not (m : Byte) : sbcOperand m = ~~~m := BitVec.xor_allOnes

/-- BIT's flags (R128). -/
theorem bitStatus_flags (p a m : Byte) :
    let q := bitStatus p a m
    q.getLsbD flagZ = decide (a &&& m = 0) ∧ q.getLsbD flagN = m.getLsbD 7 ∧ q.getLsbD flagV = m.getLsbD 6 ∧
      ∀ k, k ≠ flagZ → k ≠ flagN → k ≠ flagV → q.getLsbD k = p.getLsbD k := by
  refine ⟨?_, ?_, ?_, fun k hz hn hv => changesOnly_bitStatus p a m k (by simp [hz, hn, hv])⟩
  · rw [bitStatus, setBit_other _ _ _ _ (by decide) (by decide), setBit_other _ _ _ _ (by decide) (by decide),
      setBit_self _ _ _ (by decide)]
  · rw [bitStatus, setBit_other _ _ _ _ (by decide) (by decide), setBit_self _ _ _ (by decide)]
  · exact setBit_self _ _ _ (by decide)

/-! ### The meaning of each mnemonic's forms -/

theorem exec_adcForm {o : Operand} {i : Instr} (h : adcForm o = some i) (s : State) :
    exec i s = .next (addMem o s) := by
  cases o <;> cases h <;> rfl

theorem exec_sbcForm {o : Operand} {i : Instr} (h : sbcForm o = some i) (s : State) :
    exec i s = .next (subMem o s) := by
  cases o <;> cases h <;> rfl

theorem exec_andForm {o : Operand} {i : Instr} (h : andForm o = some i) (s : State) :
    exec i s = .next (andMem o s) := by
  cases o <;> cases h <;> rfl

theorem exec_oraForm {o : Operand} {i : Instr} (h : oraForm o = some i) (s : State) :
    exec i s = .next (orMem o s) := by
  cases o <;> cases h <;> rfl

theorem exec_eorForm {o : Operand} {i : Instr} (h : eorForm o = some i) (s : State) :
    exec i s = .next (eorMem o s) := by
  cases o <;> cases h <;> rfl

theorem exec_bitForm {o : Operand} {i : Instr} (h : bitForm o = some i) (s : State) :
    exec i s = .next (bitTest o s) := by
  cases o <;> cases h <;> rfl

theorem exec_cmpForm {o : Operand} {i : Instr} (h : cmpForm o = some i) (s : State) :
    exec i s = .next (compareA o s) := by
  cases o <;> cases h <;> rfl

theorem exec_cpxForm {o : Operand} {i : Instr} (h : cpxForm o = some i) (s : State) :
    exec i s = .next (compareX o s) := by
  cases o <;> cases h <;> rfl

theorem exec_cpyForm {o : Operand} {i : Instr} (h : cpyForm o = some i) (s : State) :
    exec i s = .next (compareY o s) := by
  cases o <;> cases h <;> rfl

theorem exec_incForm {o : Operand} {i : Instr} (h : incForm o = some i) (s : State) :
    exec i s = .next (modifyMem incF o s) := by
  cases o <;> cases h <;> rfl

theorem exec_decForm {o : Operand} {i : Instr} (h : decForm o = some i) (s : State) :
    exec i s = .next (modifyMem decF o s) := by
  cases o <;> cases h <;> rfl

/-! ### Operand reads -/

/-- What an instruction leaves that reads its operand and then writes `A` and `P` only (R75). -/
theorem readOp_advance_spec (o : Operand) (s : State) (a p : Byte) :
    let m := readOp o s
    let t := ({ m.2 with a := a, p := p } : State).advance o.len
    SameXYS s t ∧ t.pc = s.pc + BitVec.ofNat 16 o.len ∧ Quiet s m.2 t :=
  ⟨⟨readOp_x o s, readOp_y o s, readOp_sp o s⟩, congrArg (· + BitVec.ofNat 16 o.len) (readOp_pc o s),
    .of_outside (readOp_same o s) (.of_update _ _ _ _ _ _ _)⟩

/-- Settles O24: the forms of each mnemonic, and one addition, which SBC makes with the complement of its operand. -/
theorem addAndSubtractWithCarry : Obligations.AddAndSubtractWithCarry := by
  refine ⟨?adc, ?sbc, fun o i s n => ?_⟩
  case adc | sbc => exact encodedBy_of_lookup (by decide) fun o => by cases o <;> rfl
  intro m h
  have hadc : m.2.adc n = { m.2 with a := adcResult s.p s.a n, p := adcStatus s.p s.a n } := by
    rw [State.adc, readOp_a, readOp_p]
  have hexec : exec i s = .next ((m.2.adc n).advance o.len) := by
    rcases h with ⟨h, rfl⟩ | ⟨h, rfl⟩
    · exact exec_adcForm h s
    · rw [exec_sbcForm h s, subMem, State.sbc, sbcOperand_eq_not]
  rw [hadc] at hexec
  exact ⟨_, hexec, adcResult_toNat s.p s.a n, addFlags_adcStatus s.p s.a n, readOp_advance_spec o s _ _⟩

/-- Settles O25: the forms of each mnemonic; the three operations write `A` with its N and Z, BIT writes `P` only. -/
theorem logicAndBitTest : Obligations.LogicAndBitTest := by
  refine ⟨?and, ?ora, ?eor, ?bit, fun o i s r => ?_, fun o i s h => ?_⟩
  case and | ora | eor | bit => exact encodedBy_of_lookup (by decide) fun o => by cases o <;> rfl
  · intro m h
    have hexec : exec i s = .next ((m.2.setA r).advance o.len) := by
      rcases h with ⟨h, rfl⟩ | ⟨h, rfl⟩ | ⟨h, rfl⟩
      · rw [exec_andForm h s, andMem, readOp_a]
      · rw [exec_oraForm h s, orMem, readOp_a]
      · rw [exec_eorForm h s, eorMem, readOp_a]
    rw [State.setA, readOp_p] at hexec
    exact ⟨_, hexec, rfl, nzFrom_setNZ s.p r, readOp_advance_spec o s _ _⟩
  · intro m
    have hexec := exec_bitForm h s
    rw [bitTest, readOp_a, readOp_p] at hexec
    obtain ⟨hz, hn, hv, hrest⟩ := bitStatus_flags s.p s.a m.1
    exact ⟨_, hexec, hz, hn, hv, hrest, readOp_a o s, readOp_advance_spec o s m.2.a _⟩

/-- Settles O26: the forms of each mnemonic, and the three compares are one, of the value that the register holds. -/
theorem comparesSetFlagsOnly : Obligations.ComparesSetFlagsOnly := by
  refine ⟨?cmp, ?cpx, ?cpy, fun o i s r => ?_⟩
  case cmp | cpx | cpy => exact encodedBy_of_lookup (by decide) fun o => by cases o <;> rfl
  intro m h
  have hexec : exec i s = .next ((m.2.compare r m.1).advance o.len) := by
    rcases h with ⟨h, rfl⟩ | ⟨h, rfl⟩ | ⟨h, rfl⟩
    · rw [exec_cmpForm h s, compareA, readOp_a]
    · rw [exec_cpxForm h s, compareX, readOp_x]
    · rw [exec_cpyForm h s, compareY, readOp_y]
  rw [State.compare, readOp_p] at hexec
  exact ⟨_, hexec, compareFlags_cmpStatus s.p r m.1, readOp_a o s, readOp_advance_spec o s m.2.a _⟩

/-! ### Increments and decrements -/

/-- Outside the CPU's registers a read-modify-write leaves its read, its internal cycle and the write cycle of the new
byte (R75). -/
theorem rmwOp_stored {o : Operand} {f : Byte → Byte → Modified} {s t : State} :
    let e := effAddr .writeType o s
    let m := e.2.read e.1
    let r := f s.p m.1
    OutsideAs (rmwOp o f s).2 t → Stored s (m.2.tick.write e.1 r.byte) t e.1 r.byte := by
  intro e m r ht
  rw [rmwOp_eq, rmwOp_byte] at ht
  exact .of_outside (((effAddr_same _ _ _).trans (State.read_same _ _)).trans (State.tick_same _)) ht

/-- What a read-modify-write leaves that takes N and Z from the byte written (R129, R130, R150 to R153). -/
theorem modifyMem_spec (f : Byte → Byte → Modified) (o : Operand) (s : State) :
    let e := effAddr .writeType o s
    let m := e.2.read e.1
    let r := f s.p m.1
    let t := modifyMem f o s
    NZFrom r.status r.byte t.p ∧ t.a = s.a ∧ SameXYS s t ∧ t.pc = s.pc + BitVec.ofNat 16 o.len ∧
      Stored s (m.2.tick.write e.1 r.byte) t e.1 r.byte := by
  intro e m r t
  have hp : t.p = setNZ r.status r.byte := by
    rw [← rmwOp_p, ← rmwOp_byte]
    rfl
  rw [hp]
  exact ⟨nzFrom_setNZ _ _, rmwOp_a o f s, ⟨rmwOp_x o f s, rmwOp_y o f s, rmwOp_sp o f s⟩,
    congrArg (· + BitVec.ofNat 16 o.len) (rmwOp_pc o f s), rmwOp_stored (.of_update _ _ _ _ _ _ _)⟩

/-- Settles O27: the forms of each mnemonic, and two byte functions that keep the status. -/
theorem incrementAndDecrementMemory : Obligations.IncrementAndDecrementMemory := by
  refine ⟨?inc, ?dec, fun o i s r => ?_⟩
  case inc | dec => exact encodedBy_of_lookup (by decide) fun o => by cases o <;> rfl
  intro e m h
  rcases h with ⟨h, hr⟩ | ⟨h, hr⟩
  · obtain rfl : m.1 + 1 = r := BitVec.eq_of_toNat_eq ((toNat_add_one m.1).trans hr.symm)
    exact ⟨_, exec_incForm h s, modifyMem_spec incF o s⟩
  · obtain rfl : m.1 - 1 = r := BitVec.eq_of_toNat_eq ((toNat_sub_one m.1).trans hr.symm)
    exact ⟨_, exec_decForm h s, modifyMem_spec decF o s⟩

/-- Settles O28: one cycle with one register written after it, N and Z from the new value. -/
theorem incrementAndDecrementIndexRegisters : Obligations.IncrementAndDecrementIndexRegisters := by
  refine ⟨rfl, fun s => ⟨?inx, ?iny, ?dex, ?dey⟩⟩
  case inx =>
    obtain ⟨hnz, hpc, hquiet⟩ := tick_setNZ_spec s s.a (s.x + 1) s.y s.sp (s.x + 1)
    exact ⟨_, rfl, toNat_add_one s.x, hnz, rfl, rfl, rfl, hpc, hquiet⟩
  case iny =>
    obtain ⟨hnz, hpc, hquiet⟩ := tick_setNZ_spec s s.a s.x (s.y + 1) s.sp (s.y + 1)
    exact ⟨_, rfl, toNat_add_one s.y, hnz, rfl, rfl, rfl, hpc, hquiet⟩
  case dex =>
    obtain ⟨hnz, hpc, hquiet⟩ := tick_setNZ_spec s s.a (s.x - 1) s.y s.sp (s.x - 1)
    exact ⟨_, rfl, toNat_sub_one s.x, hnz, rfl, rfl, rfl, hpc, hquiet⟩
  case dey =>
    obtain ⟨hnz, hpc, hquiet⟩ := tick_setNZ_spec s s.a s.x (s.y - 1) s.sp (s.y - 1)
    exact ⟨_, rfl, toNat_sub_one s.y, hnz, rfl, rfl, rfl, hpc, hquiet⟩

end Sys2Proof.Machine
end

section
/-! The family of 42_shift_rotate.md: the byte and the carry of each shift in integers, then the accumulator and the
memory form. -/

namespace Sys2Proof.Machine

/-! ### The byte functions in integers -/

theorem toNat_shiftLeft_one (m : Byte) : (m <<< 1).toNat = m.toNat * 2 % 256 := by
  rw [BitVec.toNat_shiftLeft, Nat.shiftLeft_eq]

theorem toNat_shiftRight_one (m : Byte) : (m >>> 1).toNat = m.toNat / 2 := by
  rw [BitVec.toNat_ushiftRight, Nat.shiftRight_eq_div_pow]

/-- Bytes without a common bit join to their sum. -/
theorem toNat_or_of_disjoint {a b : Byte} (h : a &&& b = 0) : (a ||| b).toNat = a.toNat + b.toNat := by
  rw [← BitVec.add_eq_or_of_and_eq_zero a b h, BitVec.toNat_add_of_and_eq_zero h]

theorem toNat_bitOf (c : Bool) : (bitOf 8 c).toNat = c.toNat := by
  cases c <;> rfl

/-- The old carry enters bit 0, which the shift left clear (R152). -/
theorem rolF_byte_toNat (p m : Byte) :
    (rolF p m).byte.toNat = m.toNat * 2 % 256 + (p.getLsbD flagC).toNat := by
  have hdisjoint : m <<< 1 &&& bitOf 8 (p.getLsbD flagC) = 0 := by
    ext i hi
    by_cases h0 : i = 0
    · simp [h0]
    · simp [h0, ← BitVec.getLsbD_eq_getElem, getLsbD_bitOf 7]
  rw [rolF, toNat_or_of_disjoint hdisjoint, toNat_shiftLeft_one, toNat_bitOf]

/-- The old carry enters bit 7, which the shift left clear (R153). -/
theorem rorF_byte_toNat (p m : Byte) :
    (rorF p m).byte.toNat = m.toNat / 2 + 128 * (p.getLsbD flagC).toNat := by
  have hdisjoint : m >>> 1 &&& bitOf 8 (p.getLsbD flagC) <<< 7 = 0 := by
    ext i hi
    by_cases h7 : i < 7
    · simp [h7]
    · simp [show i = 7 by omega]
  have hcarry : (bitOf 8 (p.getLsbD flagC) <<< 7).toNat = 128 * (p.getLsbD flagC).toNat := by
    cases p.getLsbD flagC <;> rfl
  rw [rorF, toNat_or_of_disjoint hdisjoint, toNat_shiftRight_one, hcarry]

theorem getLsbD_seven_eq_div (m : Byte) : m.getLsbD 7 = decide (m.toNat / 128 = 1) := by
  have hm := m.isLt
  rw [getLsbD7_eq, decide_eq_decide]
  omega

theorem getLsbD_zero_eq_mod (m : Byte) : m.getLsbD 0 = decide (m.toNat % 2 = 1) := Nat.testBit_zero m.toNat

/-- The byte a shift leaves, from the carry and the old byte (R150 to R153). -/
def ShiftKind.result (c m : Nat) : ShiftKind → Nat
  | .asl => m * 2 % 256
  | .lsr => m / 2
  | .rol => m * 2 % 256 + c
  | .ror => m / 2 + 128 * c

/-- The bit a shift moves out of the byte (R150 to R153). -/
def ShiftKind.bitOut (m : Nat) : ShiftKind → Nat
  | .asl | .rol => m / 128
  | .lsr | .ror => m % 2

theorem ShiftKind.fn_byte_toNat (k : ShiftKind) (p m : Byte) :
    (k.fn p m).byte.toNat = k.result (p.getLsbD flagC).toNat m.toNat := by
  cases k with
  | asl => exact toNat_shiftLeft_one m
  | lsr => exact toNat_shiftRight_one m
  | rol => exact rolF_byte_toNat p m
  | ror => exact rorF_byte_toNat p m

theorem ShiftKind.fn_status_carry (k : ShiftKind) (p m : Byte) :
    (k.fn p m).status.getLsbD flagC = decide (k.bitOut m.toNat = 1) := by
  cases k with
  | asl | rol => exact (setBit_self p flagC _ (by decide)).trans (getLsbD_seven_eq_div m)
  | lsr | ror => exact (setBit_self p flagC _ (by decide)).trans (getLsbD_zero_eq_mod m)

/-- The status after a shift that takes N and Z from its byte (R150 to R153). -/
theorem ShiftKind.flags (k : ShiftKind) {p m q : Byte} (h : NZFrom (k.fn p m).status (k.fn p m).byte q) :
    q.getLsbD flagC = decide (k.bitOut m.toNat = 1) ∧ q.getLsbD flagZ = decide ((k.fn p m).byte = 0) ∧
      q.getLsbD flagN = (k.fn p m).byte.getLsbD 7 ∧
      ∀ j, j ≠ flagC → j ≠ flagZ → j ≠ flagN → q.getLsbD j = p.getLsbD j := by
  obtain ⟨hn, hz, hrest⟩ := h
  refine ⟨?_, hz, hn, fun j hjc hjz hjn => ?_⟩
  · rw [hrest flagC (by decide) (by decide), k.fn_status_carry]
  · rw [hrest j hjn hjz, changesOnly_shift k p m j (by simpa using hjc)]

/-! ### The accumulator form -/

/-- What a shift of `A` leaves: one cycle, then `A` and `P` written (R63). -/
theorem shiftA_spec (f : Byte → Byte → Modified) (s : State) :
    let r := f s.p s.a
    let t := shiftA f s
    t.a = r.byte ∧ NZFrom r.status r.byte t.p ∧ SameXYS s t ∧ t.pc = s.pc + 1 ∧ Quiet s s.tick t :=
  ⟨rfl, nzFrom_setNZ _ _, ⟨rfl, rfl, rfl⟩, rfl, .of_outside s.tick_same (.of_update _ _ _ _ _ _ _)⟩

/-! ### The memory form -/

theorem exec_aslForm {o : Operand} {i : Instr} (h : aslForm o = some i) (s : State) :
    exec i s = .next (shiftMem ShiftKind.asl.fn o s) := by
  cases o <;> cases h <;> rfl

theorem exec_lsrForm {o : Operand} {i : Instr} (h : lsrForm o = some i) (s : State) :
    exec i s = .next (shiftMem ShiftKind.lsr.fn o s) := by
  cases o <;> cases h <;> rfl

theorem exec_rolForm {o : Operand} {i : Instr} (h : rolForm o = some i) (s : State) :
    exec i s = .next (shiftMem ShiftKind.rol.fn o s) := by
  cases o <;> cases h <;> rfl

theorem exec_rorForm {o : Operand} {i : Instr} (h : rorForm o = some i) (s : State) :
    exec i s = .next (shiftMem ShiftKind.ror.fn o s) := by
  cases o <;> cases h <;> rfl

/-- Settles O29: the forms of each mnemonic; the four shifts are one operation, of `A` or of a byte of memory, with the
byte function of their kind. -/
theorem shiftsAndRotates : Obligations.ShiftsAndRotates := by
  refine ⟨?asl, ?lsr, ?rol, ?ror, rfl, fun i s r out => ?_, fun o i s r out => ?_⟩
  case asl | lsr | rol | ror => exact encodedBy_of_lookup (by decide) fun o => by cases o <;> rfl
  · intro c h
    obtain ⟨k, hexec, rfl, rfl⟩ : ∃ k : ShiftKind, exec i s = .next (shiftA k.fn s) ∧
        r = k.result c s.a.toNat ∧ out = k.bitOut s.a.toNat := by
      rcases h with ⟨rfl, h⟩ | ⟨rfl, h⟩ | ⟨rfl, h⟩ | ⟨rfl, h⟩
      · exact ⟨.asl, rfl, h⟩
      · exact ⟨.lsr, rfl, h⟩
      · exact ⟨.rol, rfl, h⟩
      · exact ⟨.ror, rfl, h⟩
    obtain ⟨ha, hnz, hframe⟩ := shiftA_spec k.fn s
    obtain ⟨hc, hz, hn, hrest⟩ := k.flags hnz
    have hbyte : (k.fn s.p s.a).byte.toNat = k.result c s.a.toNat := k.fn_byte_toNat s.p s.a
    refine ⟨_, hexec, by rw [ha, hbyte], hc, ?_, ?_, hrest, hframe⟩
    · rw [hz, ← hbyte]
      congr 1
      rw [← BitVec.toNat_inj]; rfl
    · rw [hn, getLsbD7_eq, hbyte]
  · intro c e m h
    obtain ⟨k, hexec, hr, rfl⟩ : ∃ k : ShiftKind, exec i s = .next (shiftMem k.fn o s) ∧
        r.toNat = k.result c m.1.toNat ∧ out = k.bitOut m.1.toNat := by
      rcases h with ⟨hi, h⟩ | ⟨hi, h⟩ | ⟨hi, h⟩ | ⟨hi, h⟩
      · exact ⟨.asl, exec_aslForm hi s, h⟩
      · exact ⟨.lsr, exec_lsrForm hi s, h⟩
      · exact ⟨.rol, exec_rolForm hi s, h⟩
      · exact ⟨.ror, exec_rorForm hi s, h⟩
    obtain rfl : (k.fn s.p m.1).byte = r := BitVec.eq_of_toNat_eq ((k.fn_byte_toNat s.p m.1).trans hr.symm)
    obtain ⟨hnz, hframe⟩ := modifyMem_spec k.fn o s
    obtain ⟨hc, hz, hn, hrest⟩ := k.flags hnz
    exact ⟨_, hexec, hc, hz, hn, hrest, hframe⟩

end Sys2Proof.Machine
end

section
/-! The family of 43_control_flow.md, jumps, call and return: the pointer's high byte inside its page, what a call
leaves on the stack, and what a return from known stack bytes leaves. -/

namespace Sys2Proof.Machine

/-! ### Jumps -/

/-- The next address inside a page: the low byte counts mod 256 and nothing carries into the high byte (R43). -/
theorem pointerHigh_eq_wordOf (w : Word) : pointerHigh w = wordOf (loByte w + 1) (hiByte w) := by
  have hlo : loByte (pointerHigh w) = loByte w + 1 := by
    have hnext : loByte (w + 1) = loByte w + 1 := BitVec.setWidth_add w 1 (by decide)
    rw [← hnext]
    ext i hi
    interval_cases i <;> simp [pointerHigh, loByte]
  have hhi : hiByte (pointerHigh w) = hiByte w := by
    ext i hi
    interval_cases i <;> simp [pointerHigh, hiByte]
  rw [← hlo, ← hhi, wordOf_lo_hi]

/-- The address with the pointer's high byte and the next low byte mod 256 is the one JMP indirect reads second. -/
theorem eq_pointerHigh {w h : Word} (hhi : hiByte h = hiByte w)
    (hlo : (loByte h).toNat = ((loByte w).toNat + 1) % 256) : h = pointerHigh w := by
  have hnext : loByte h = loByte w + 1 := BitVec.eq_of_toNat_eq (hlo.trans (toNat_add_one (loByte w)).symm)
  rw [pointerHigh_eq_wordOf, ← hhi, ← hnext, wordOf_lo_hi]

/-- JMP indirect: two read cycles, the second inside the pointer's page, and the jump (R161). -/
theorem jumpIndirect_spec (w : Word) (s : State) :
    let lo := s.read w
    let hi := lo.2.read (pointerHigh w)
    let t := jumpIndirect w s
    t.pc = wordOf lo.1 hi.1 ∧ t.a = s.a ∧ SameXYS s t ∧ t.p = s.p ∧ Quiet s hi.2 t := by
  intro lo hi t
  have hout : OutsideAs hi.2 t := .of_update _ _ _ _ _ _ _
  refine ⟨rfl, ?_, ⟨?_, ?_, ?_⟩, ?_, .of_outside ((State.read_same s w).trans (State.read_same lo.2 _)) hout⟩
  all_goals simp [t, jumpIndirect]

/-- Settles O30: the absolute form changes `PC` only; the indirect form reads the pointer's two bytes first, and
`pointerHigh` is the address that the statement describes. -/
theorem jumpsGoToTheirTarget : Obligations.JumpsGoToTheirTarget := by
  refine ⟨fun w => ⟨rfl, rfl⟩, fun w s => ⟨_, rfl, rfl, ticks_jump 0 s w⟩, fun w h s hhi hlo => ?_⟩
  obtain rfl := eq_pointerHigh hhi hlo
  exact ⟨_, rfl, jumpIndirect_spec w s⟩

/-! ### Call and return -/

/-- JSR leaves the pushed return address, `SP` two lower, and the jump (R162). -/
theorem call_spec (w : Word) (s : State) :
    let t := call w s
    t.pc = w ∧ t.sp = s.sp - 2 ∧ t.a = s.a ∧ t.x = s.x ∧ t.y = s.y ∧ t.p = s.p ∧
      OutsideAs (s.tick.pushWord (s.pc + 2)) t ∧ Pushed s t [hiByte (s.pc + 2), loByte (s.pc + 2)] := by
  have hsp : s.sp - 1 - 1 = s.sp - 2 := by bv_omega
  intro t
  have hout : OutsideAs (s.tick.pushWord (s.pc + 2)) t := .of_update _ _ _ _ _ _ _
  exact ⟨rfl, (State.pushWord_sp s.tick _).trans hsp, State.pushWord_a s.tick _, State.pushWord_x s.tick _,
    State.pushWord_y s.tick _, State.pushWord_p s.tick _, hout,
    .of_tick ((State.pushWord_pushed s.tick _).of_outside hout.same)⟩

/-- RTS with the bytes `lo` and `hi` above `SP`: five cycles, `SP` two higher, and `PC` the address after the word
pulled (R163). -/
theorem returnSub_eq {s : State} {lo hi : Byte} (hlo : s.byteAt (stackAddr (s.sp + 1)) = some lo)
    (hhi : s.byteAt (stackAddr (s.sp + 2)) = some hi) :
    returnSub s = { State.ticks 5 s with sp := s.sp + 2, pc := wordOf lo hi + 1 } := by
  have hpull : s.tick.tick.pullWord = (wordOf lo hi, { State.ticks 4 s with sp := s.sp + 2 }) :=
    State.pullWord_plain s.tick.tick lo hi ((State.ticks_byteAt 2 s _).trans hlo) ((State.ticks_byteAt 2 s _).trans hhi)
  rw [returnSub, hpull, State.tick_withSp, ← State.ticks_succ]

/-- Settles O31: the call with its two pushes, and the return from known stack bytes. -/
theorem callAndReturn : Obligations.CallAndReturn := by
  refine ⟨fun w => rfl, rfl, fun w s => ⟨_, rfl, call_spec w s⟩, fun lo hi s hlo hhi => ?_⟩
  have hexec : exec .rts s = .next { State.ticks 5 s with sp := s.sp + 2, pc := wordOf lo hi + 1 } :=
    congrArg Host.Outcome.next (returnSub_eq hlo hhi)
  exact ⟨_, hexec, rfl, rfl, rfl, rfl, rfl, rfl, .of_outside (State.ticks_same 5 s) (.of_update _ _ _ _ _ _ _)⟩

/-- Settles O32: the return pulls the word that the call pushed, the address of the call's last byte. -/
theorem returnAfterCallGoesToTheNextInstruction : Obligations.ReturnAfterCallGoesToTheNextInstruction := by
  intro w s t u r hcall husp huhi hulo hret
  obtain rfl : call w s = t := Host.Outcome.next.inj hcall
  obtain rfl : returnSub u = r := Host.Outcome.next.inj hret
  obtain ⟨_, hsp, _, _, _, _, _, hpushed, _⟩ := call_spec w s
  have hsp2 : u.sp + 2 = s.sp := by rw [husp, hsp, BitVec.sub_add_cancel]
  have hsp1 : u.sp + 1 = s.sp - 1 := by rw [← hsp2]; bv_omega
  have hhi : u.byteAt (stackAddr (u.sp + 2)) = some (hiByte (s.pc + 2)) := by
    rw [hsp2, huhi]
    simpa using hpushed 0 _ rfl
  have hlo : u.byteAt (stackAddr (u.sp + 1)) = some (loByte (s.pc + 2)) := by
    rw [hsp1, hulo]
    exact hpushed 1 _ rfl
  rw [returnSub_eq hlo hhi, wordOf_lo_hi]
  exact ⟨BitVec.add_assoc _ _ _, hsp2⟩

end Sys2Proof.Machine
end

section
/-! The family of 44_stack_flags_system.md: what one push and one pull of a known byte leave, the status pulled, one
cycle with a flag written, and the NOP variants, of which a mode may have several. -/

namespace Sys2Proof.Machine

/-! ### Pushes -/

/-- One cycle, a push, and the instruction passed: of the CPU only `SP` and `PC` change (R180, R181). -/
theorem push_advance_spec (s : State) (v : Byte) :
    let t := (s.tick.push v).advance 1
    t.a = s.a ∧ t.x = s.x ∧ t.y = s.y ∧ t.sp = s.sp - 1 ∧ t.p = s.p ∧ t.pc = s.pc + 1 ∧
      OutsideAs (s.tick.push v) t ∧ Pushed s t [v] := by
  intro t
  have hout : OutsideAs (s.tick.push v) t := .of_update _ _ _ _ _ _ _
  have hpushed : Pushed s.tick (s.tick.push v) [v] := (Pushed.nil (.refl s.tick)).snoc v (by simp) (by decide)
  exact ⟨State.push_a s.tick v, State.push_x s.tick v, State.push_y s.tick v, State.push_sp s.tick v,
    State.push_p s.tick v, congrArg (· + 1) (State.push_pc s.tick v), hout, .of_tick (hpushed.of_outside hout.same)⟩

/-- Settles O34: both are one push, of the byte that the row names. -/
theorem pushInstructions : Obligations.PushInstructions := by
  rintro i op s v (⟨rfl, rfl, rfl⟩ | ⟨rfl, rfl, rfl⟩)
  · exact ⟨rfl, _, rfl, push_advance_spec s s.a⟩
  · exact ⟨rfl, _, rfl, push_advance_spec s (pushedByInstr s.p)⟩

/-! ### Pulls -/

/-- Two cycles and a pull of the byte `v` above `SP`: three cycles, `SP` one higher (R182, R183). -/
theorem ticks_pull_eq {s : State} {v : Byte} (h : s.byteAt (stackAddr (s.sp + 1)) = some v) :
    s.tick.tick.pull = (v, { State.ticks 3 s with sp := s.sp + 1 }) :=
  State.pull_plain s.tick.tick v ((State.ticks_byteAt 2 s _).trans h)

/-- PLA of the byte `v` (R182). -/
theorem exec_pla {s : State} {v : Byte} (h : s.byteAt (stackAddr (s.sp + 1)) = some v) :
    let r := State.ticks 3 s
    exec .pla s = .next (({ r with a := v, sp := s.sp + 1, p := setNZ r.p v } : State).advance 1) := by
  rw [exec_eq, actOf, Act.run, pullA, ticks_pull_eq h]

/-- PLP of the byte `v` (R183). -/
theorem exec_plp {s : State} {v : Byte} (h : s.byteAt (stackAddr (s.sp + 1)) = some v) :
    exec .plp s = .next (({ State.ticks 3 s with sp := s.sp + 1, p := pulledStatus v } : State).advance 1) := by
  rw [exec_eq, actOf, Act.run, pullP, ticks_pull_eq h]

/-- Settles O35: the pull of the known byte, then `A` with N and Z, or the status, written from it. -/
theorem pullInstructions : Obligations.PullInstructions := by
  refine ⟨rfl, rfl, fun s v h => ?_⟩
  have hmem := State.ticks_same 3 s
  have ha : (State.ticks 3 s).a = s.a := State.ticks_view State.tick_a 3 s
  have hx : (State.ticks 3 s).x = s.x := State.ticks_view State.tick_x 3 s
  have hy : (State.ticks 3 s).y = s.y := State.ticks_view State.tick_y 3 s
  have hp : (State.ticks 3 s).p = s.p := State.ticks_view State.tick_p 3 s
  have hpc : (State.ticks 3 s).pc = s.pc := State.ticks_view State.tick_pc 3 s
  have hpla := exec_pla h
  have hplp := exec_plp h
  -- Only these facts about the three cycles matter; left transparent, unification unfolds the devices' ticks.
  generalize State.ticks 3 s = r at *
  obtain ⟨hnz, hnext, hquiet⟩ := setNZ_advance_spec hmem hp hpc v r.x r.y (s.sp + 1) v 1
  obtain ⟨hb5, hb⟩ := pulledStatus_bits v
  exact ⟨⟨_, hpla, rfl, hnz, hx, hy, rfl, hnext, hquiet⟩,
    _, hplp, hb, hb5, pulledStatus_other v, ha, hx, hy, rfl, hnext, .of_outside hmem (.of_update _ _ _ _ _ _ _)⟩

/-! ### Flags -/

/-- One cycle, `P` written, and the instruction passed (R184 to R191). -/
theorem tick_status_spec (s : State) (p : Byte) :
    let t := ({ s.tick with p := p } : State).advance 1
    t.a = s.a ∧ SameXYS s t ∧ t.pc = s.pc + 1 ∧ Quiet s s.tick t :=
  ⟨rfl, ⟨rfl, rfl, rfl⟩, rfl, .of_outside s.tick_same (.of_update _ _ _ _ _ _ _)⟩

/-- Settles O36: the seven rows are one operation, with the flag and the value that it writes. -/
theorem flagInstructionsWriteOneFlag : Obligations.FlagInstructionsWriteOneFlag := by
  intro i op f v s hi
  have hrow : encode i = [op] ∧ exec i s = .next (setFlag f v s) ∧ f < 8 := by
    simp only [List.mem_cons, List.not_mem_nil, or_false] at hi
    rcases hi with h | h | h | h | h | h | h <;> cases h <;> exact ⟨rfl, rfl, by decide⟩
  obtain ⟨hbytes, hexec, hf⟩ := hrow
  exact ⟨hbytes, _, hexec, bitFrom_setBit s.p f v hf, tick_status_spec s _⟩

/-! ### NOP and its variants -/

/-- Where a mode may have several opcodes: `forms` are the instructions with operand `o` that the table gives when their
bytes are, row by row, the opcodes of `o`'s mode before the operand's bytes (R76). -/
theorem mem_forms_iff {forms : List Instr} {modes : List (Mode × Byte)} {o : Operand}
    (hbytes : forms.map encode = (modes.filter (·.1 = o.mode)).map (·.2 :: o.bytes)) (i : Instr) :
    i ∈ forms ↔ ∃ op, (o.mode, op) ∈ modes ∧ encode i = op :: o.bytes := by
  rw [← List.mem_map_of_injective encode_injective, hbytes]
  simp only [List.mem_map, List.mem_filter, decide_eq_true_eq, Prod.exists]
  constructor
  · rintro ⟨_, op, ⟨hmem, rfl⟩, he⟩
    exact ⟨op, hmem, he.symm⟩
  · rintro ⟨op, hmem, he⟩
    exact ⟨o.mode, op, ⟨hmem, rfl⟩, he.symm⟩

/-- Instructions that are all one operation complete as it (R221). -/
theorem exec_of_map_actOf {forms : List Instr} {c : Act} (h : forms.map actOf = List.replicate forms.length c)
    {i : Instr} (hi : i ∈ forms) (s : State) : exec i s = .next (c.run s) := by
  have hact : actOf i = c := List.eq_of_mem_replicate (h ▸ List.mem_map_of_mem hi)
  rw [exec_eq, hact]

theorem exec_impliedNops {i : Instr} (h : i ∈ impliedNops) (s : State) : exec i s = .next (noOp s) :=
  exec_of_map_actOf (c := .noOp) rfl h s

theorem exec_nopForms {o : Operand} {i : Instr} (h : i ∈ nopForms o) (s : State) :
    exec i s = .next (readDiscard o s) :=
  exec_of_map_actOf (c := .readDiscard o) (by cases o <;> rfl) h s

/-- Settles O37: the table row by row; the implied variants are one cycle, the others one operand read. -/
theorem nopsChangeNothing : Obligations.NopsChangeNothing := by
  refine ⟨rfl, fun o => mem_forms_iff (by cases o <;> rfl), fun i hi s => ?_, fun o s i hi => ?_⟩
  · obtain ⟨ha, hxys, hpc, hquiet⟩ := tick_status_spec s s.p
    exact ⟨_, exec_impliedNops hi s, ha, hxys, rfl, hpc, hquiet⟩
  · obtain ⟨hxys, hpc, hquiet⟩ := readOp_advance_spec o s (readOp o s).2.a (readOp o s).2.p
    exact ⟨_, exec_nopForms hi s, readOp_a o s, hxys, readOp_p o s, hpc, hquiet⟩

end Sys2Proof.Machine
end

section
/-! The family of 45_undocumented.md: the combined opcodes are a load of two registers, a store, or a
read-modify-write after which `A` and `P` are written from the new byte. -/

namespace Sys2Proof.Machine

/-! ### The meaning of each mnemonic's forms -/

theorem exec_laxForm {o : Operand} {i : Instr} (h : laxForm o = some i) (s : State) :
    exec i s = .next (loadAX o s) := by
  cases o <;> cases h <;> rfl

theorem exec_saxForm {o : Operand} {i : Instr} (h : saxForm o = some i) (s : State) :
    exec i s = .next (storeAX o s) := by
  cases o <;> cases h <;> rfl

theorem exec_dcpForm {o : Operand} {i : Instr} (h : dcpForm o = some i) (s : State) :
    exec i s = .next (decCompare o s) := by
  cases o <;> cases h <;> rfl

theorem exec_isbForm {o : Operand} {i : Instr} (h : isbForm o = some i) (s : State) :
    exec i s = .next (incSub o s) := by
  cases o <;> cases h <;> rfl

theorem exec_sloForm {o : Operand} {i : Instr} (h : sloForm o = some i) (s : State) :
    exec i s = .next (shiftOr o s) := by
  cases o <;> cases h <;> rfl

theorem exec_rlaForm {o : Operand} {i : Instr} (h : rlaForm o = some i) (s : State) :
    exec i s = .next (rotateAnd o s) := by
  cases o <;> cases h <;> rfl

theorem exec_sreForm {o : Operand} {i : Instr} (h : sreForm o = some i) (s : State) :
    exec i s = .next (shiftEor o s) := by
  cases o <;> cases h <;> rfl

theorem exec_rraForm {o : Operand} {i : Instr} (h : rraForm o = some i) (s : State) :
    exec i s = .next (rotateAdd o s) := by
  cases o <;> cases h <;> rfl

/-! ### A read-modify-write with `A` and `P` written after it -/

/-- What an instruction leaves that makes a read-modify-write and then writes `A` and `P` only (R75). -/
theorem rmwOp_advance_spec (f : Byte → Byte → Modified) (o : Operand) (s : State) (a p : Byte) :
    let e := effAddr .writeType o s
    let m := e.2.read e.1
    let r := (f s.p m.1).byte
    let t := ({ (rmwOp o f s).2 with a := a, p := p } : State).advance o.len
    SameXYS s t ∧ t.pc = s.pc + BitVec.ofNat 16 o.len ∧ Stored s (m.2.tick.write e.1 r) t e.1 r :=
  ⟨⟨rmwOp_x o f s, rmwOp_y o f s, rmwOp_sp o f s⟩, congrArg (· + BitVec.ofNat 16 o.len) (rmwOp_pc o f s),
    rmwOp_stored (.of_update _ _ _ _ _ _ _)⟩

/-- The bit rotated out is the carry that the addition of *RRA takes in (R207). -/
theorem rorF_carry_toNat (p m : Byte) : ((rorF p m).status.getLsbD flagC).toNat = m.toNat % 2 := by
  rw [rorF, setBit_self _ _ _ (by decide), BitVec.getLsbD, Nat.toNat_testBit, Nat.pow_zero, Nat.div_one]

/-- Settles O41: the forms of each mnemonic; *LAX is a load, *SAX a store, $EB the meaning of SBC immediate. The
other six make a read-modify-write; with `A`, `P` and the byte written put into the operation after it, that operation's
flags and the frame are lemmas. -/
theorem undocumentedCombinations : Obligations.UndocumentedCombinations := by
  refine ⟨?lax, ?sax, ?dcp, ?isb, ?slo, ?rla, ?sre, ?rra, fun o i s h => ?_, fun o i s h => ?_,
    fun b s => ⟨rfl, _, rfl, rfl⟩, fun o i s r P => ?_⟩
  case lax | sax | dcp | isb | slo | rla | sre | rra =>
    exact encodedBy_of_lookup (by decide) fun o => by cases o <;> rfl
  · intro m
    obtain ⟨hnz, hpc, hquiet⟩ := readOp_setNZ_spec o s m.1 m.1 m.2.y m.2.sp m.1
    exact ⟨_, exec_laxForm h s, rfl, rfl, hnz, readOp_y o s, readOp_sp o s, hpc, hquiet⟩
  · exact ⟨_, exec_saxForm h s, writeOp_advance_spec o (s.a &&& s.x) s⟩
  · intro c e m h
    rcases h with ⟨h, rfl, rfl⟩ | ⟨h, rfl, rfl⟩ | ⟨h, rfl, rfl⟩ | ⟨h, hr, rfl⟩ | ⟨h, rfl, rfl⟩ | ⟨h, hr, rfl⟩
    · have hexec := exec_dcpForm h s
      rw [decCompare, State.compare, rmwOp_a, rmwOp_p, rmwOp_byte] at hexec
      exact ⟨_, hexec, ⟨rfl, compareFlags_cmpStatus s.p s.a _⟩, rmwOp_advance_spec decF o s _ _⟩
    · have hexec := exec_isbForm h s
      rw [incSub, State.sbc, State.adc, sbcOperand_eq_not, rmwOp_a, rmwOp_p, rmwOp_byte] at hexec
      exact ⟨_, hexec, ⟨adcResult_toNat s.p s.a _, addFlags_adcStatus s.p s.a _⟩, rmwOp_advance_spec incF o s _ _⟩
    · have hexec := exec_sloForm h s
      rw [shiftOr, State.setA, rmwOp_a, rmwOp_p, rmwOp_byte] at hexec
      exact ⟨_, hexec, ⟨rfl, nzFrom_setNZ _ _⟩, rmwOp_advance_spec aslF o s _ _⟩
    · obtain rfl : (rolF s.p m.1).byte = r := BitVec.eq_of_toNat_eq ((rolF_byte_toNat s.p m.1).trans hr.symm)
      have hexec := exec_rlaForm h s
      rw [rotateAnd, State.setA, rmwOp_a, rmwOp_p, rmwOp_byte] at hexec
      exact ⟨_, hexec, ⟨rfl, nzFrom_setNZ _ _⟩, rmwOp_advance_spec rolF o s _ _⟩
    · have hexec := exec_sreForm h s
      rw [shiftEor, State.setA, rmwOp_a, rmwOp_p, rmwOp_byte] at hexec
      exact ⟨_, hexec, ⟨rfl, nzFrom_setNZ _ _⟩, rmwOp_advance_spec lsrF o s _ _⟩
    · obtain rfl : (rorF s.p m.1).byte = r := BitVec.eq_of_toNat_eq ((rorF_byte_toNat s.p m.1).trans hr.symm)
      have hexec := exec_rraForm h s
      rw [rotateAdd, State.adc, rmwOp_a, rmwOp_p, rmwOp_byte] at hexec
      have hsum := adcResult_toNat (rorF s.p m.1).status s.a (rorF s.p m.1).byte
      rw [rorF_carry_toNat] at hsum
      exact ⟨_, hexec, ⟨hsum, addFlags_adcStatus _ s.a _⟩, rmwOp_advance_spec rorF o s _ _⟩

end Sys2Proof.Machine
end

section
/-! The family of 60_exceptions.md, the CPU's side: no step stops, what taking an exception and returning from one
leave, and that the return undoes the entry. -/

namespace Sys2Proof.Machine

/-! ### No step stops -/

theorem step_next (s : State) : ∃ t, step s = .next t := by
  by_cases hn : s.ppu.pendingNmi = true
  · exact ⟨_, if_pos hn⟩
  · exact ⟨_, (if_neg hn).trans (exec_eq _ _)⟩

/-- Settles O7: every instruction completes as its operation, an NMI is served as a state function, and no other move
has a way to stop. -/
theorem nothingStopsTheMachine : Obligations.NothingStopsTheMachine := by
  refine ⟨fun i s => ⟨_, exec_eq i s⟩, step_next, fun m s => ?_⟩
  cases m with
  | step => exact step_next s
  | reset | setPc a | sendInput k pressed | drainAudio n | scheduleAudio turns | takeFrame => exact ⟨_, rfl⟩

/-! ### Taking an exception -/

theorem State.readWord_cycle (s : State) (a : Word) : (s.readWord a).2.cycle = s.cycle + 2 := by
  rw [State.readWord, State.read_cycle, State.read_cycle]

/-- Taking an exception leaves three bytes on the stack, `I` set, and `PC` at the word that two read cycles fetch
(R227). -/
theorem State.enterVector_spec (s : State) (ret : Word) (status : Byte) (vector : Word) :
    let r := (s.pushWord ret).push status
    let t := s.enterVector ret status vector
    t.pc = (r.readWord vector).1 ∧ OutsideAs (r.readWord vector).2 t ∧ t.cycle = s.cycle + 5 ∧ t.a = s.a ∧ t.x = s.x ∧
      t.y = s.y ∧ t.sp = s.sp - 3 ∧ BitFrom s.p t.p flagI true ∧ Pushed s t [hiByte ret, loByte ret, status] := by
  intro r t
  have ht : t = { (r.readWord vector).2 with p := setBit r.p flagI true, pc := (r.readWord vector).1 } :=
    State.enterVector_eq s ret status vector
  have hout : OutsideAs (r.readWord vector).2 t := ht ▸ .of_update _ _ _ _ _ _ _
  have hcycle : r.cycle = s.cycle + 3 := by simp only [r, State.pushWord, State.push_cycle]
  have hsp : r.sp = s.sp - 3 := by
    simp only [r, State.push_sp, State.pushWord_sp]
    bv_omega
  have hpushed : Pushed s r [hiByte ret, loByte ret, status] :=
    (State.pushWord_pushed s ret).snoc status ((State.pushWord_sp s ret).trans (BitVec.sub_sub s.sp 1 1)) (by simp)
  have hregs : KeepsRegisters [.sp] s t := State.enterVector_registers s ret status vector
  refine ⟨by rw [ht], hout, ?_, hregs .a (by decide), hregs .x (by decide), hregs .y (by decide), ?_, ?_, ?_⟩
  · rw [ht]
    exact (State.readWord_cycle r vector).trans (by rw [hcycle])
  · rw [ht]
    exact (State.readWord_sp r vector).trans hsp
  · rw [State.enterVector_p]
    exact bitFrom_setBit s.p flagI true (by decide)
  · exact hpushed.of_outside ((State.readWord_same r vector).trans hout.same)

/-- Settles O38: BRK is one cycle and the entry through $FFFE. -/
theorem breakEntersTheTrapHandler : Obligations.BreakEntersTheTrapHandler := by
  refine ⟨rfl, fun s => ?_⟩
  obtain ⟨hpc, hout, hcycle, ha, hx, hy, hsp, hp, hpushed⟩ :=
    State.enterVector_spec s.tick (s.pc + 2) (pushedByInstr s.p) brkVector
  exact ⟨_, exec_eq .brk s, hpc, hout, hcycle.trans (Nat.add_assoc s.cycle 1 5), ha, hx, hy, hsp, hp, .of_tick hpushed⟩

/-- Settles O6: NMI service is two cycles with the latch cleared and the entry through $FFFA. -/
theorem stepServesAPendingNmi : Obligations.StepServesAPendingNmi := by
  intro s hn
  obtain ⟨hpc, hout, hcycle, ha, hx, hy, hsp, hp, hpushed⟩ :=
    State.enterVector_spec s.clearNmi.tick.tick s.pc (pushedByNmi s.p) nmiVector
  have hstep : step s = .next s.clearNmi.nmiService := if_pos hn
  have hclear : Pushed s.clearNmi s.clearNmi.nmiService [hiByte s.pc, loByte s.pc, pushedByNmi s.p] :=
    .of_tick (.of_tick hpushed)
  exact ⟨_, hstep, hpc, hout, hcycle, ha, hx, hy, hsp, hp, hclear⟩

/-! ### Returning from one -/

/-- RTI with the bytes `b`, `lo` and `hi` above `SP`: five cycles, `SP` three higher, `P` and `PC` as pulled (R193). -/
theorem returnTrap_eq {s : State} {b lo hi : Byte} (hb : s.byteAt (stackAddr (s.sp + 1)) = some b)
    (hlo : s.byteAt (stackAddr (s.sp + 2)) = some lo) (hhi : s.byteAt (stackAddr (s.sp + 3)) = some hi) :
    returnTrap s = { State.ticks 5 s with sp := s.sp + 3, p := pulledStatus b, pc := wordOf lo hi } := by
  have h1 : s.sp + 1 + 1 = s.sp + 2 := by bv_omega
  have h2 : s.sp + 1 + 2 = s.sp + 3 := by bv_omega
  have hword := State.pullWord_plain { State.ticks 3 s with sp := s.sp + 1, p := pulledStatus b } lo hi
    (by rw [h1]; exact (State.ticks_byteAt 3 s _).trans hlo) (by rw [h2]; exact (State.ticks_byteAt 3 s _).trans hhi)
  rw [returnTrap, State.returnFromException, ticks_pull_eq hb]
  dsimp only
  rw [hword, h2, State.ticks_succ 4, State.ticks_succ 3]
  generalize State.ticks 3 s = r
  rfl

/-- Settles O39: the three pulls of known bytes, and five cycles that change no memory. -/
theorem returnFromInterrupt : Obligations.ReturnFromInterrupt := by
  refine ⟨rfl, fun b lo hi s hb hlo hhi => ?_⟩
  have hexec := exec_eq .rti s
  rw [actOf, Act.run, returnTrap_eq hb hlo hhi] at hexec
  obtain ⟨hb5, hbit⟩ := pulledStatus_bits b
  have ha : (State.ticks 5 s).a = s.a := State.ticks_view State.tick_a 5 s
  have hx : (State.ticks 5 s).x = s.x := State.ticks_view State.tick_x 5 s
  have hy : (State.ticks 5 s).y = s.y := State.ticks_view State.tick_y 5 s
  exact ⟨_, hexec, rfl, rfl, hbit, hb5, pulledStatus_other b, ha, hx, hy,
    .of_outside (State.ticks_same 5 s) (.of_update _ _ _ _ _ _ _)⟩

/-! ### The return undoes the entry -/

/-- Bits 4 and 5 of a live `P` are already what a pull forces them to (R13, R193). -/
theorem pulledStatus_self {p : Byte} (hp : StatusWf p) : pulledStatus p = p := by
  obtain ⟨hp5, hpb⟩ := hp
  obtain ⟨h5, hb⟩ := pulledStatus_bits p
  refine BitVec.eq_of_getLsbD_eq fun k _ => ?_
  by_cases hkb : k = flagB
  · rw [hkb, hb, hpb]
  · by_cases hk5 : k = flagB5
    · rw [hk5, h5, hp5]
    · exact pulledStatus_other p k hkb hk5

/-- The masks of a pushed status touch only the two bits that a pull forces, so the pull restores `P` (R13, R193). -/
theorem pulledStatus_pushed {p : Byte} (hp : StatusWf p) :
    pulledStatus (pushedByNmi p) = p ∧ pulledStatus (pushedByInstr p) = p := by
  have hmasks : ∀ q : Byte,
      pulledStatus (pushedByNmi q) = pulledStatus q ∧ pulledStatus (pushedByInstr q) = pulledStatus q := by decide
  rw [(hmasks p).1, (hmasks p).2, pulledStatus_self hp]
  exact ⟨rfl, rfl⟩

/-- RTI after the bytes of `ret` and a copy of `P` were pushed from `s`, with `SP` below them and the bytes in place. -/
theorem returnTrap_of_pushed {s t u : State} {ret : Word} {status : Byte} (hstatus : pulledStatus status = s.p)
    (hpushed : Pushed s t [hiByte ret, loByte ret, status]) (hsp : u.sp = s.sp - 3)
    (hkept : ∀ k, k < 3 →
      u.byteAt (stackAddr (s.sp - BitVec.ofNat 8 k)) = t.byteAt (stackAddr (s.sp - BitVec.ofNat 8 k))) :
    (returnTrap u).p = s.p ∧ (returnTrap u).sp = s.sp ∧ (returnTrap u).pc = ret := by
  obtain ⟨hcells, _⟩ := hpushed
  have h3 : u.sp + 3 = s.sp - BitVec.ofNat 8 0 := by bv_omega
  have h2 : u.sp + 2 = s.sp - BitVec.ofNat 8 1 := by bv_omega
  have h1 : u.sp + 1 = s.sp - BitVec.ofNat 8 2 := by bv_omega
  have hhi : u.byteAt (stackAddr (u.sp + 3)) = some (hiByte ret) := by
    rw [h3, hkept 0 (by decide)]
    exact hcells 0 _ rfl
  have hlo : u.byteAt (stackAddr (u.sp + 2)) = some (loByte ret) := by
    rw [h2, hkept 1 (by decide)]
    exact hcells 1 _ rfl
  have hb : u.byteAt (stackAddr (u.sp + 1)) = some status := by
    rw [h1, hkept 2 (by decide)]
    exact hcells 2 _ rfl
  rw [returnTrap_eq hb hlo hhi, wordOf_lo_hi]
  exact ⟨hstatus, h3.trans (BitVec.sub_zero s.sp), rfl⟩

/-- Settles O40: both entries push the return address and a copy of `P`, which the return pulls. -/
theorem returnUndoesTrapEntry : Obligations.ReturnUndoesTrapEntry := by
  intro s t u r hwf husp hkept hret
  obtain rfl : returnTrap u = r := Host.Outcome.next.inj ((exec_eq .rti u).symm.trans hret)
  obtain ⟨hnmi, hinstr⟩ := pulledStatus_pushed hwf
  refine ⟨fun hn hstep => ?_, fun hbrk => ?_⟩
  · obtain ⟨t', ht', _, _, _, _, _, _, hsp, _, hpushed⟩ := stepServesAPendingNmi s hn
    obtain rfl : t' = t := Host.Outcome.next.inj (ht'.symm.trans hstep)
    exact returnTrap_of_pushed hnmi hpushed (husp.trans hsp) hkept
  · obtain ⟨_, hentry⟩ := breakEntersTheTrapHandler
    obtain ⟨t', ht', _, _, _, _, _, _, hsp, _, hpushed⟩ := hentry s
    obtain rfl : t' = t := Host.Outcome.next.inj (ht'.symm.trans hbrk)
    exact returnTrap_of_pushed hinstr hpushed (husp.trans hsp) hkept

end Sys2Proof.Machine
end

section
/-! The family of 60_exceptions.md, the frame counter: the divider, one step of the sequence for each of its periods,
and what a quarter and a half frame clock. -/

namespace Sys2Proof.Machine

/-! ### The divider -/

theorem Apu.withFcDiv_zero {u : Apu} (h : u.fcDiv = 0) : { u with fcDiv := 0 } = u := by
  rw [← h]

/-- Below its period the divider counts the ticks, and nothing else changes (R317). -/
theorem frameStep_iterate {u : Apu} (h : u.fcDiv = 0) : ∀ n, n < 7457 → frameStep^[n] u = { u with fcDiv := n }
  | 0, _ => (Apu.withFcDiv_zero h).symm
  | n + 1, hn => by
    rw [Function.iterate_succ_apply', frameStep_iterate h n (by omega), frameStep, if_neg (Nat.ne_of_lt hn)]

/-- A whole period of the divider makes one step of the sequence (R317). -/
theorem frameStep_period {u : Apu} (h : u.fcDiv = 0) : frameStep^[7457] u = frameSequence u := by
  rw [Function.iterate_succ_apply', frameStep_iterate h 7456 (by decide), frameStep, if_pos rfl, Apu.withFcDiv_zero h]

theorem frameSequence_fcDiv (u : Apu) : (frameSequence u).fcDiv = u.fcDiv := by
  unfold frameSequence
  dsimp only
  split_ifs <;> rfl

/-- `n` periods of the divider make `n` steps of the sequence (R317). -/
theorem frameStep_periods {u : Apu} (h : u.fcDiv = 0) : ∀ n,
    frameStep^[7457 * n] u = frameSequence^[n] u ∧ (frameSequence^[n] u).fcDiv = 0
  | 0 => ⟨rfl, h⟩
  | n + 1 => by
    obtain ⟨hrun, hdiv⟩ := frameStep_periods h n
    rw [Nat.mul_succ, Nat.add_comm, Function.iterate_add_apply, hrun, frameStep_period hdiv,
      Function.iterate_succ_apply', frameSequence_fcDiv]
    exact ⟨rfl, hdiv⟩

/-! ### The sequence -/

/-- Step `k` of a sequence: which steps make a quarter frame, which a half frame, and what step follows (R317). -/
theorem frameSequence_eq (u : Apu) :
    let k := u.fcStep
    let q := if u.fcMode5 ∧ k = 3 then u else quarterFrame u
    let r := if k = 1 ∨ k = (if u.fcMode5 then 4 else 3) then halfFrame q else q
    frameSequence u = { r with fcStep := (k + 1) % (if u.fcMode5 then 5 else 4) } := by
  cases hm : u.fcMode5 <;> simp [frameSequence, hm]

/-- From its start the 4-step sequence makes four quarter frames, with a half frame after the second and the fourth. -/
theorem frameSequence_four {u : Apu} (hm : u.fcMode5 = false) (hk : u.fcStep = 0) :
    frameSequence^[4] u = halfFrame (quarterFrame (quarterFrame (halfFrame (quarterFrame (quarterFrame u))))) := by
  simp [Function.iterate_succ_apply', frameSequence, halfFrame, quarterFrame, hm, hk]

/-- So does the 5-step sequence, whose fourth step is silent. -/
theorem frameSequence_five {u : Apu} (hm : u.fcMode5 = true) (hk : u.fcStep = 0) :
    frameSequence^[5] u = halfFrame (quarterFrame (quarterFrame (halfFrame (quarterFrame (quarterFrame u))))) := by
  simp [Function.iterate_succ_apply', frameSequence, halfFrame, quarterFrame, hm, hk]

/-! ### What the frames clock -/

theorem lengthClock_toNat (halt : Bool) (v : Byte) :
    (lengthClock halt v).toNat = if halt then v.toNat else v.toNat - 1 := by
  cases halt with
  | true => rfl
  | false =>
    by_cases hv : v = 0
    · rw [hv]; rfl
    · rw [lengthClock, if_pos ⟨rfl, hv⟩]
      simp only [Bool.false_eq_true, if_false]
      bv_omega

theorem triQuarter_linearCounter_toNat (ch : Triangle) : (triQuarter ch).linearCounter.toNat =
    if ch.reloadLinear then ch.linearReload.toNat else ch.linearCounter.toNat - 1 := by
  simp only [triQuarter]
  split_ifs with hr hz
  · rfl
  · rw [hz]; rfl
  · bv_omega

/-- Settles O58: the periods of the divider are the steps of the sequence; a whole sequence is four or five of them. -/
theorem frameCounterSequence : Obligations.FrameCounterSequence := by
  refine ⟨fun u hdiv hstep => ?_, fun u n hdiv => frameStep_iterate hdiv n, fun u hdiv _ => ?_, fun u => ?_⟩
  · cases hm : u.fcMode5 with
    | true => exact (frameStep_periods hdiv 5).1.trans (frameSequence_five hm hstep)
    | false => exact (frameStep_periods hdiv 4).1.trans (frameSequence_four hm hstep)
  · exact (frameStep_period hdiv).trans (frameSequence_eq u)
  · exact ⟨rfl, triQuarter_linearCounter_toNat u.tri, rfl, rfl, lengthClock_toNat _ _, lengthClock_toNat _ _,
      lengthClock_toNat _ _, lengthClock_toNat _ _⟩

end Sys2Proof.Machine
end

section
/-! The family of 60_exceptions.md, the dots: where each dot moves the position, whatever it renders, and so the length
of a line and of a frame. -/

namespace Sys2Proof.Machine

/-! ### Rendering does not move the position -/

/-- The position of the picture unit: dot, scanline, `odd_frame` (R19). -/
def Ppu.place (u : Ppu) : Nat × Int × Bool := (u.dot, u.scanline, u.oddFrame)

theorem bgFetchStep_place (g : PpuSide) (ph : Nat) : (bgFetchStep g ph).ppu.place = g.ppu.place := by
  unfold bgFetchStep
  dsimp only
  split_ifs <;> simp [Ppu.place, bgReload]

theorem dotFetch_place (g : PpuSide) : (dotFetch g).ppu.place = g.ppu.place := by
  unfold dotFetch
  split_ifs
  · exact bgFetchStep_place _ _
  · rfl

theorem dotPixel_place (g : PpuSide) : (dotPixel g).ppu.place = g.ppu.place := by
  unfold dotPixel
  split_ifs <;> rfl

theorem dotScroll_place (u : Ppu) : (dotScroll u).place = u.place := by
  unfold dotScroll copyHorizontal copyVertical spriteEvaluate
  dsimp only
  split_ifs <;> rfl

theorem dotSprite_place (g : PpuSide) : (dotSprite g).ppu.place = g.ppu.place := by
  unfold dotSprite spriteFetch
  split_ifs
  · split <;> simp [Ppu.place]
  · rfl

theorem renderDot_place (g : PpuSide) : (renderDot g).ppu.place = g.ppu.place := by
  rw [renderDot, dotSprite_place, dotScroll_place, dotFetch_place, dotPixel_place]

/-! ### The next position -/

/-- The position after the dot at `(dot, scanline)` (R263, D32). -/
def nextPlace (re : Bool) : Nat × Int × Bool → Nat × Int × Bool
  | (dot, scanline, odd) =>
    if 340 ≤ dot ∨ (scanline = -1 ∧ dot = 339 ∧ odd = true ∧ re = true) then
      if 260 ≤ scanline then (0, -1, !odd) else (0, scanline + 1, odd)
    else (dot + 1, scanline, odd)

/-- Whether the dot at the unit's position is the last of its line (R263, D32). -/
abbrev Ppu.LineEnds (re : Bool) (u : Ppu) : Prop :=
  340 ≤ u.dot ∨ (u.scanline = -1 ∧ u.dot = 339 ∧ u.oddFrame = true ∧ re = true)

theorem nextPlace_place (re : Bool) (u : Ppu) : nextPlace re u.place =
    if u.LineEnds re then if 260 ≤ u.scanline then (0, -1, !u.oddFrame) else (0, u.scanline + 1, u.oddFrame)
    else (u.dot + 1, u.scanline, u.oddFrame) := rfl

theorem advanceDot_place (re : Bool) (u : Ppu) : (advanceDot re u).place = nextPlace re u.place := by
  rw [nextPlace_place, advanceDot]
  by_cases hskip : u.scanline = -1 ∧ u.dot = 339 ∧ u.oddFrame = true ∧ re = true
  · obtain ⟨hs, hd, ho, hr⟩ := hskip
    simp [Ppu.place, Ppu.LineEnds, hs, hd, ho, hr]
  · have hend : u.LineEnds re ↔ u.dot + 1 > 340 := by
      simp only [Ppu.LineEnds, hskip, or_false]
      omega
    have hlast : u.scanline + 1 > 260 ↔ 260 ≤ u.scanline := by omega
    simp only [if_neg hskip, hend, hlast]
    split_ifs <;> rfl

/-- The next position field by field. -/
theorem nextPlace_fields {re : Bool} {u q : Ppu} (h : q.place = nextPlace re u.place) :
    q.dot = (if u.LineEnds re then 0 else u.dot + 1) ∧
      q.scanline = (if u.LineEnds re then if 260 ≤ u.scanline then -1 else u.scanline + 1 else u.scanline) ∧
      q.oddFrame = (if u.LineEnds re ∧ 260 ≤ u.scanline then !u.oddFrame else u.oddFrame) := by
  rw [nextPlace_place, Ppu.place] at h
  by_cases hend : u.LineEnds re
  · by_cases hlast : 260 ≤ u.scanline <;> simpa only [hend, hlast, true_and, if_true, if_false, Prod.mk.injEq] using h
  · simpa only [hend, false_and, if_false, Prod.mk.injEq] using h

/-- A dot moves the position, whatever it renders (R263). -/
theorem ppuTick_place (g : PpuSide) : (ppuTick g).ppu.place = nextPlace g.ppu.rendering g.ppu.place := by
  have hevents : (timedEvents g.ppu).place = g.ppu.place := by
    obtain ⟨hd, hs, ho⟩ := timedEvents_place g.ppu
    simp only [Ppu.place, hd, hs, ho]
  rw [ppuTick, advanceDot_place]
  split_ifs
  · rw [renderDot_place, hevents]
  · rw [hevents]

theorem ppuTick_iterate_place (n : Nat) (g : PpuSide) :
    (ppuTick^[n] g).ppu.place = (nextPlace g.ppu.rendering)^[n] g.ppu.place := by
  induction n generalizing g with
  | zero => rfl
  | succ n ih => rw [Function.iterate_succ_apply, Function.iterate_succ_apply, ih, ppuTick_rendering, ppuTick_place]

/-! ### Lines and frames -/

/-- Dots of one line follow one another up to its last dot `e`: dot 340, or 339 where dot 340 is skipped (D32). -/
theorem nextPlace_in_line {re : Bool} {l : Int} {o : Bool} {e : Nat} (he : e ≤ 340)
    (hskip : l = -1 → o = true → re = true → e ≤ 339) : ∀ k, k ≤ e → (nextPlace re)^[k] (0, l, o) = (k, l, o)
  | 0, _ => rfl
  | k + 1, hk => by
    have hgo : ¬ (340 ≤ k ∨ (l = -1 ∧ k = 339 ∧ o = true ∧ re = true)) := by
      rintro (h | ⟨hl, hk', ho, hre⟩)
      · omega
      · have := hskip hl ho hre
        omega
    rw [Function.iterate_succ_apply', nextPlace_in_line he hskip k (by omega), nextPlace, if_neg hgo]

/-- A whole line takes 341 dots, where dot 340 is not skipped. -/
theorem nextPlace_line {re : Bool} {l : Int} {o : Bool} (h : ¬ (l = -1 ∧ o = true ∧ re = true)) :
    (nextPlace re)^[341] (0, l, o) = if 260 ≤ l then (0, -1, !o) else (0, l + 1, o) := by
  rw [Function.iterate_succ_apply',
    nextPlace_in_line (Nat.le_refl 340) (fun hl ho hre => absurd ⟨hl, ho, hre⟩ h) 340 (Nat.le_refl 340), nextPlace,
    if_pos (.inl (Nat.le_refl 340))]

/-- The pre-render line is one dot shorter in an odd frame with rendering enabled (D32). -/
theorem nextPlace_preRenderLine (re o : Bool) :
    (nextPlace re)^[if o && re then 340 else 341] (0, -1, o) = (0, 0, o) := by
  by_cases h : o = true ∧ re = true
  · obtain ⟨rfl, rfl⟩ := h
    rw [Bool.and_self, if_pos rfl, Function.iterate_succ_apply',
      nextPlace_in_line (e := 339) (by decide) (fun _ _ _ => Nat.le_refl 339) 339 (Nat.le_refl 339)]
    rfl
  · rw [if_neg (by simpa using h), nextPlace_line fun hl => h hl.2]
    rfl

/-- From the start of line 0, `n` lines lead to the start of line `n`, up to line 260. -/
theorem nextPlace_lines (re o : Bool) : ∀ n : Nat, n ≤ 260 → (nextPlace re)^[341 * n] (0, 0, o) = (0, (n : Int), o)
  | 0, _ => rfl
  | n + 1, hn => by
    rw [Nat.mul_succ, Nat.add_comm, Function.iterate_add_apply, nextPlace_lines re o n (by omega),
      nextPlace_line (by omega), if_neg (by omega)]
    rfl

/-- The lines 0 to 260 end at the start of the next frame, where `odd_frame` toggles (R263). -/
theorem nextPlace_afterPreRender (re o : Bool) : (nextPlace re)^[341 * 261] (0, 0, o) = (0, -1, !o) := by
  rw [Nat.mul_succ, Nat.add_comm, Function.iterate_add_apply, nextPlace_lines re o 260 (Nat.le_refl 260),
    nextPlace_line (by omega)]
  rfl

theorem nextPlace_frame (re o : Bool) :
    (nextPlace re)^[if o && re then 89341 else 89342] (0, -1, o) = (0, -1, !o) := by
  have hlength : (if o && re then 89341 else 89342) = 341 * 261 + if o && re then 340 else 341 := by
    split_ifs <;> rfl
  rw [hlength, Function.iterate_add_apply, nextPlace_preRenderLine, nextPlace_afterPreRender]

/-- Settles O49: the position moves by itself, so a frame is its lines one after the other. -/
theorem dotPositionAndFrameLength : Obligations.DotPositionAndFrameLength := by
  refine ⟨fun g => ?_, fun g hs hd => ?_⟩
  · obtain ⟨hdot, hscan, hodd⟩ := nextPlace_fields (ppuTick_place g)
    exact ⟨hdot, hscan, hodd, ppuTick_vram g, ppuTick_pal g, ppuTick_oam g, ppuTick_oamAddr g, ppuTick_ctrl g,
      ppuTick_mask g, ppuTick_t g, ppuTick_x g, ppuTick_w g, ppuTick_readBuffer g⟩
  · have hstart : g.ppu.place = (0, -1, g.ppu.oddFrame) := by rw [Ppu.place, hs, hd]
    have hframe := ppuTick_iterate_place (if g.ppu.oddFrame && g.ppu.rendering then 89341 else 89342) g
    rw [hstart, nextPlace_frame, Ppu.place] at hframe
    simp only [Prod.mk.injEq] at hframe
    obtain ⟨hdot, hscan, hodd⟩ := hframe
    exact ⟨hscan, hdot, hodd⟩

end Sys2Proof.Machine
end

section
/-! The family of 61_ppu.md, the ports: the fields the two write pairs assemble, the data port and its buffer, and the
unit's memories through their mirrors. -/

namespace Sys2Proof.Machine

/-! ### Fields of a word -/

/-- Two fields of the same width are the same number when they have the same bits. -/
theorem toNat_field_eq {n m : Nat} {x : BitVec n} {y : BitVec m} (lo lo' w : Nat)
    (h : ∀ k, k < w → x.getLsbD (lo + k) = y.getLsbD (lo' + k)) :
    x.toNat / 2 ^ lo % 2 ^ w = y.toNat / 2 ^ lo' % 2 ^ w := by
  refine Nat.eq_of_testBit_eq fun k => ?_
  by_cases hk : k < w
  · simpa [Nat.testBit_mod_two_pow, Nat.testBit_div_two_pow, hk, Nat.add_comm k, BitVec.getLsbD] using h k hk
  · simp [Nat.testBit_mod_two_pow, hk]

/-! ### The write pairs -/

/-- The bits of `t` after both PPUSCROLL writes: coarse X, coarse Y, the old nametable bits, fine Y (R257, D35). -/
theorem scrollPair_bits (u : Ppu) (b1 b2 : Byte) (hw : u.w = false) (k : Nat) :
    (scrollWrite (scrollWrite u b1) b2).t.getLsbD k =
      if k < 5 then b1.getLsbD (3 + k) else if k < 10 then b2.getLsbD (k - 2) else if k < 12 then u.t.getLsbD k
      else if k < 15 then b2.getLsbD (k - 12) else false := by
  simp only [scrollWrite, hw, Bool.false_eq_true, if_false, if_true]
  by_cases hk : k < 15
  · interval_cases k <;> simp
  · rw [BitVec.getLsbD_of_ge _ _ (Nat.le_of_not_lt hk), if_neg, if_neg, if_neg, if_neg] <;> omega

/-- The bits of `t` after both PPUADDR writes: the second byte, then six bits of the first (R258, D35). -/
theorem addrPair_bits (u : Ppu) (b1 b2 : Byte) (hw : u.w = false) (k : Nat) :
    (addrWrite (addrWrite u b1) b2).t.getLsbD k =
      if k < 8 then b2.getLsbD k else if k < 14 then b1.getLsbD (k - 8) else false := by
  simp only [addrWrite, hw, Bool.false_eq_true, if_false, if_true]
  by_cases hk : k < 15
  · interval_cases k <;> simp
  · rw [BitVec.getLsbD_of_ge _ _ (Nat.le_of_not_lt hk), if_neg, if_neg] <;> omega

theorem scrollPair_fields (u : Ppu) (b1 b2 : Byte) (hw : u.w = false) :
    let t := (scrollWrite (scrollWrite u b1) b2).t
    t.toNat % 32 = b1.toNat / 8 ∧ t.toNat / 32 % 32 = b2.toNat / 8 ∧ t.toNat / 1024 % 4 = u.t.toNat / 1024 % 4 ∧
      t.toNat / 4096 = b2.toNat % 8 := by
  intro t
  have hbits : ∀ k, t.getLsbD k = _ := scrollPair_bits u b1 b2 hw
  have hcoarseX := toNat_field_eq 0 3 5 (x := t) (y := b1) fun k hk => by
    rw [hbits, Nat.zero_add, if_pos hk]
  have hcoarseY := toNat_field_eq 5 3 5 (x := t) (y := b2) fun k hk => by
    rw [hbits, if_neg (by omega), if_pos (by omega)]
    congr 1; omega
  have hnametable := toNat_field_eq 10 10 2 (x := t) (y := u.t) fun k hk => by
    rw [hbits, if_neg (by omega), if_neg (by omega), if_pos (by omega)]
  have hfineY := toNat_field_eq 12 0 3 (x := t) (y := b2) fun k hk => by
    rw [hbits, if_neg (by omega), if_neg (by omega), if_neg (by omega), if_pos (by omega)]
    congr 1; omega
  have := t.isLt
  omega

theorem addrPair_toNat (u : Ppu) (b1 b2 : Byte) (hw : u.w = false) :
    (addrWrite (addrWrite u b1) b2).t.toNat = b1.toNat % 64 * 256 + b2.toNat := by
  generalize ht : (addrWrite (addrWrite u b1) b2).t = t
  have hbits : ∀ k, t.getLsbD k = _ := fun k => ht ▸ addrPair_bits u b1 b2 hw k
  have hlow := toNat_field_eq 0 0 8 (x := t) (y := b2) fun k hk => by
    rw [hbits, Nat.zero_add, if_pos hk]
  have hhigh := toNat_field_eq 8 0 6 (x := t) (y := b1) fun k hk => by
    rw [hbits, if_neg (by omega), if_pos (by omega)]
    congr 1; omega
  have htop := toNat_field_eq 14 0 1 (x := t) (y := 0#1) fun k hk => by
    rw [hbits, if_neg (by omega), if_neg (by omega), BitVec.getLsbD_zero]
  have := t.isLt
  have : (0#1).toNat = 0 := rfl
  omega

theorem scrollPair_x_toNat (u : Ppu) (b1 b2 : Byte) (hw : u.w = false) :
    (scrollWrite (scrollWrite u b1) b2).x.toNat = b1.toNat % 8 := by
  simp only [scrollWrite, hw, Bool.false_eq_true, if_false, if_true]
  exact BitVec.toNat_setWidth 3 b1

/-- With the toggle at 0 a write pair brings it back to 0, and PPUSCROLL writes `t` and `x` alone (R257). -/
theorem scrollPair_frame (u : Ppu) (b1 b2 : Byte) (hw : u.w = false) :
    let r := scrollWrite (scrollWrite u b1) b2
    r = { u with t := r.t, x := r.x } := by
  cases u; subst hw; rfl

/-- With the toggle at 0 the PPUADDR pair writes `t` and `v` alone, and both alike (R258). -/
theorem addrPair_frame (u : Ppu) (b1 b2 : Byte) (hw : u.w = false) :
    let r := addrWrite (addrWrite u b1) b2
    r = { u with t := r.t, v := r.v } ∧ r.v = r.t := by
  cases u; subst hw; exact ⟨rfl, rfl⟩

/-- Settles O46: each port is its one assignment, and a write pair is known by the bits it leaves in `t`. -/
theorem maskOamScrollAndAddressPorts : Obligations.MaskOamScrollAndAddressPorts := by
  refine ⟨fun g b => ⟨rfl, rfl, rfl, rfl, rfl, BitVec.toNat_add _ _, fun k => ?_, rfl⟩, fun g b1 b2 hw => ?_⟩
  · split_ifs with hk
    · exact hk ▸ Memory.read_write_self _ _ b
    · exact Memory.read_write_other _ hk b
  · obtain ⟨hcoarseX, hcoarseY, hnametable, hfineY⟩ := scrollPair_fields g.ppu b1 b2 hw
    obtain ⟨hframe, hv⟩ := addrPair_frame g.ppu b1 b2 hw
    exact ⟨congrArg (fun u => { g with ppu := u }) (scrollPair_frame g.ppu b1 b2 hw),
      scrollPair_x_toNat g.ppu b1 b2 hw, hcoarseX, hcoarseY, hnametable, hfineY,
      congrArg (fun u => { g with ppu := u }) hframe, hv,
      (congrArg BitVec.toNat hv).trans (addrPair_toNat g.ppu b1 b2 hw)⟩

/-! ### The unit's memories, range by range -/

theorem ppuMemRead_pattern (g : PpuSide) {a : BitVec 14} (h : a < 0x2000) :
    ppuMemRead g a = ((g.cart.ppuRead a).1, { g with cart := (g.cart.ppuRead a).2 }) := if_pos h

theorem ppuMemWrite_pattern (g : PpuSide) {a : BitVec 14} (b : Byte) (h : a < 0x2000) :
    ppuMemWrite g a b = { g with cart := g.cart.ppuWrite a b } := if_pos h

theorem ppuMemRead_nametable (g : PpuSide) {a : BitVec 14} (h1 : 0x2000 ≤ a) (h2 : a < 0x3F00)
    (hm : g.cart.mirroring ≠ .fourScreen) :
    ppuMemRead g a = (g.ppu.vram.read (ntIndex g.cart.mirroring a).toNat, g) := by
  rw [ppuMemRead, if_neg (BitVec.not_lt.mpr h1), if_pos h2]
  split
  · contradiction
  · rfl

theorem ppuMemWrite_nametable (g : PpuSide) {a : BitVec 14} (b : Byte) (h1 : 0x2000 ≤ a) (h2 : a < 0x3F00)
    (hm : g.cart.mirroring ≠ .fourScreen) : ppuMemWrite g a b =
      { g with ppu := { g.ppu with vram := g.ppu.vram.write (ntIndex g.cart.mirroring a).toNat b } } := by
  rw [ppuMemWrite, if_neg (BitVec.not_lt.mpr h1), if_pos h2]
  split
  · contradiction
  · rfl

/-- The cartridge's address of a four-screen nametable byte (R270). -/
theorem fourScreen_address (a : BitVec 14) :
    0x2000 ||| (a &&& 0x0FFF) = BitVec.ofNat 14 (0x2000 + a.toNat % 4096) := by
  have hmask : (a &&& 0x0FFF).toNat = a.toNat % 4096 :=
    (BitVec.toNat_and a _).trans (Nat.and_two_pow_sub_one_eq_mod _ 12)
  have hdisjoint : (0x2000 : BitVec 14) &&& (a &&& 0x0FFF) = 0 := by
    rw [BitVec.and_comm, BitVec.and_assoc]
    exact BitVec.and_zero
  rw [← BitVec.add_eq_or_of_and_eq_zero _ _ hdisjoint]
  exact BitVec.eq_of_toNat_eq (by rw [BitVec.toNat_add, hmask]; rfl)

theorem ppuMemRead_fourScreen (g : PpuSide) {a : BitVec 14} (h1 : 0x2000 ≤ a) (h2 : a < 0x3F00)
    (hm : g.cart.mirroring = .fourScreen) :
    let e := BitVec.ofNat 14 (0x2000 + a.toNat % 4096)
    ppuMemRead g a = ((g.cart.ppuRead e).1, { g with cart := (g.cart.ppuRead e).2 }) := by
  rw [ppuMemRead, if_neg (BitVec.not_lt.mpr h1), if_pos h2, hm, fourScreen_address]

theorem ppuMemWrite_fourScreen (g : PpuSide) {a : BitVec 14} (b : Byte) (h1 : 0x2000 ≤ a) (h2 : a < 0x3F00)
    (hm : g.cart.mirroring = .fourScreen) :
    ppuMemWrite g a b = { g with cart := g.cart.ppuWrite (BitVec.ofNat 14 (0x2000 + a.toNat % 4096)) b } := by
  rw [ppuMemWrite, if_neg (BitVec.not_lt.mpr h1), if_pos h2, hm, fourScreen_address]

theorem ppuMemRead_palette (g : PpuSide) {a : BitVec 14} (h : 0x3F00 ≤ a) :
    ppuMemRead g a = (g.ppu.pal.read (palIndex (a.setWidth 5)).toNat, g) := by
  rw [ppuMemRead, if_neg (by bv_omega), if_neg (by bv_omega)]

theorem ppuMemWrite_palette (g : PpuSide) {a : BitVec 14} (b : Byte) (h : 0x3F00 ≤ a) : ppuMemWrite g a b =
    { g with ppu := { g.ppu with pal := g.ppu.pal.write (palIndex (a.setWidth 5)).toNat b } } := by
  rw [ppuMemWrite, if_neg (by bv_omega), if_neg (by bv_omega)]

/-- A write of the unit's memory changes of the unit the nametables and the palette at most. -/
theorem ppuMemWrite_frame (g : PpuSide) (a : BitVec 14) (b : Byte) :
    let w := ppuMemWrite g a b
    w.ppu = { g.ppu with vram := w.ppu.vram, pal := w.ppu.pal } := by
  unfold ppuMemWrite
  split_ifs
  · rfl
  · split <;> rfl
  · rfl

/-! ### The data port -/

theorem vAdvanced_eq (u : Ppu) : vAdvanced u = BitVec.ofNat 15 (u.v.toNat + if u.ctrl.getLsbD 2 then 32 else 1) := by
  rw [vAdvanced]
  split_ifs <;> bv_omega

/-- A read below the palette hands out the buffer and refills it (R260). -/
theorem dataFetch_buffered {g : PpuSide} (h : vAddr g.ppu < 0x3F00) :
    dataFetch g = (g.ppu.readBuffer, { (ppuMemRead g (vAddr g.ppu)).2 with
      ppu := { g.ppu with readBuffer := (ppuMemRead g (vAddr g.ppu)).1 } }) := by
  simp only [dataFetch, if_pos h, ppuMemRead_ppu]

/-- A palette read hands out the palette byte and fills the buffer from the nametable under it (R260, D36). -/
theorem dataFetch_palette {g : PpuSide} (h : 0x3F00 ≤ vAddr g.ppu) :
    dataFetch g = (g.ppu.pal.read (palIndex ((vAddr g.ppu).setWidth 5)).toNat,
      { (ppuMemRead g (vAddr g.ppu - 0x1000)).2 with
        ppu := { g.ppu with readBuffer := (ppuMemRead g (vAddr g.ppu - 0x1000)).1 } }) := by
  simp only [dataFetch, if_neg (BitVec.not_lt.mpr h), ppuMemRead_palette g h, ppuMemRead_ppu]

/-- Settles O47: port 7 is `data_read` and `data_write`, whose move of `v` no memory read sees. -/
theorem dataPortReadsAndWrites : Obligations.DataPortReadsAndWrites := by
  intro g b a v' r w
  have hv : vAdvanced g.ppu = v' := vAdvanced_eq g.ppu
  have hr : r = dataRead g := rfl
  have hwrite := ppuMemWrite_frame g a b
  have hw : w = { ppuMemWrite g a b with ppu := { (ppuMemWrite g a b).ppu with v := v' } } := by
    rw [← hv]
    have hadvanced := congrArg vAdvanced hwrite
    exact congrArg (fun v => ({ ppuMemWrite g a b with ppu := { (ppuMemWrite g a b).ppu with v := v } } : PpuSide))
      hadvanced
  have hread : r.2.ppu = { g.ppu with v := v', readBuffer := r.2.ppu.readBuffer } ∧
      (a.toNat < 0x3F00 → r.1 = g.ppu.readBuffer ∧ r.2.ppu.readBuffer = (ppuMemRead g a).1) ∧
      (0x3F00 ≤ a.toNat → r.1 = g.ppu.pal.read (palIndex (a.setWidth 5)).toNat ∧
        r.2.ppu.readBuffer = (ppuMemRead g (a - 0x1000)).1) := by
    by_cases h : a < 0x3F00
    · rw [hr, dataRead, dataFetch_buffered h, ← hv]
      exact ⟨rfl, fun _ => ⟨rfl, rfl⟩, fun hn => absurd hn (Nat.not_le.mpr h)⟩
    · rw [hr, dataRead, dataFetch_palette (BitVec.not_lt.mp h), ← hv]
      exact ⟨rfl, fun hn => absurd hn h, fun _ => ⟨rfl, rfl⟩⟩
  obtain ⟨hppu, hbuffered, hpalette⟩ := hread
  refine ⟨BitVec.toNat_setWidth 14 g.ppu.v, hppu, hbuffered, hpalette, ?_, ?_, fun c => ?_⟩
  · rw [hw]
    exact congrArg (fun u : Ppu => { u with v := v' }) hwrite
  · rw [hw]
  · rw [hw, ppuMemRead_withPpu (ppuMemWrite g a b) { (ppuMemWrite g a b).ppu with v := v' } c rfl rfl]

/-! ### Mirrors -/

/-- The entry of a palette address (R271, D37). -/
theorem palIndex_toNat (a : BitVec 14) : (palIndex (a.setWidth 5)).toNat =
    if a.toNat % 32 ∈ [16, 20, 24, 28] then a.toNat % 16 else a.toNat % 32 := by
  have hindex : ∀ i : BitVec 5, (palIndex i).toNat = if i.toNat ∈ [16, 20, 24, 28] then i.toNat % 16 else i.toNat := by
    decide
  have hmod : a.toNat % 32 % 16 = a.toNat % 16 := by omega
  rw [hindex, BitVec.toNat_setWidth, hmod]

/-- The byte of the nametables behind an address, by bank and offset (R272, D37). -/
theorem ntIndex_toNat (mir : Mirroring) (a : BitVec 14) :
    (ntIndex mir a).toNat = (ntBank mir ((a >>> 10).setWidth 2)).toNat * 1024 + a.toNat % 1024 := by
  have hoffset : ((a &&& 0x03FF).setWidth 11).toNat = a.toNat % 1024 := by
    have := (BitVec.toNat_and a 0x03FF).trans (Nat.and_two_pow_sub_one_eq_mod _ 10)
    rw [BitVec.toNat_setWidth, this]
    omega
  have hbank : ∀ bank,
      (bitOf 11 bank <<< 10 ||| (a &&& 0x03FF).setWidth 11).toNat = bank.toNat * 1024 + a.toNat % 1024 := by
    intro bank
    rw [BitVec.toNat_or, hoffset]
    cases bank
    · exact Nat.zero_or _ |>.trans (Nat.zero_add _).symm
    · exact (Nat.two_pow_add_eq_or_of_lt (i := 10) (Nat.mod_lt _ (by decide)) 1).symm
  exact hbank _

/-- The nametable cell of an address under a mirroring, in the spec's formulas (R272, D37). -/
def ntCell (mir : Mirroring) (n : Nat) : Nat :=
  match mir with
  | .horizontal => n / 2048 % 2 * 1024 + n % 1024
  | .vertical => n / 1024 % 2 * 1024 + n % 1024
  | .singleScreenB => 1024 + n % 1024
  | _ => n % 1024

theorem ntIndex_eq_ntCell (mir : Mirroring) (a : BitVec 14) : (ntIndex mir a).toNat = ntCell mir a.toNat := by
  have htable : ∀ k, k < 2 → (((a >>> 10).setWidth 2).getLsbD k).toNat = a.toNat / 2 ^ (10 + k) % 2 := by
    intro k hk
    rw [BitVec.getLsbD_setWidth, BitVec.getLsbD_ushiftRight, decide_eq_true hk, Bool.true_and]
    exact Nat.toNat_testBit _ _
  have h0 := htable 0 (by decide)
  have h1 := htable 1 (by decide)
  rw [ntIndex_toNat]
  cases mir <;> simp only [ntBank, ntCell, h0, h1, Bool.toNat_true, Bool.toNat_false] <;> omega

/-- A pattern byte of a `FLAT32` is its `chr` at the address itself (R346, D23). -/
theorem chrIndex_pattern {a : BitVec 14} (h : a < 0x2000) : chrIndex a = a.toNat := by
  have := BitVec.toNat_setWidth 13 a
  rw [chrIndex]
  bv_omega

theorem Memory.read_write (m : Memory) (a c : Nat) (b : Byte) :
    (m.write a b).read c = if a = c then b else m.read c := by
  split_ifs with h
  · exact h ▸ Memory.read_write_self m a b
  · exact Memory.read_write_other m (Ne.symm h) b

/-- Settles O51: range by range, two addresses name one byte exactly when their indices agree. -/
theorem paletteAndNametableMirrors : Obligations.PaletteAndNametableMirrors := by
  unfold Obligations.PaletteAndNametableMirrors
  intro entry cell g a c b w
  refine ⟨fun h => ?_, fun ha => ?_, fun hm h1 h2 => ?_, fun ha => ?_, fun hm h1 h2 => ?_, fun f hf ha => ?_,
    fun ha hc => ?_, fun hm ha1 ha2 hc1 hc2 => ?_⟩
  · by_cases hpal : 0x3F00 ≤ a
    · rw [ppuMemRead_palette g hpal]
    · obtain ⟨h1, hm⟩ := h.resolve_left hpal
      rw [ppuMemRead_nametable g h1 (BitVec.not_le.mp hpal) hm]
  · simp only [w, ppuMemWrite_palette g b ha]
  · simp only [w, ppuMemWrite_nametable g b h1 h2 hm]
  · exact ⟨ppuMemRead_pattern g ha, ppuMemWrite_pattern g b ha⟩
  · exact ⟨ppuMemRead_fourScreen g h1 h2 hm, ppuMemWrite_fourScreen g b h1 h2 hm⟩
  · obtain ⟨u, cart⟩ := g
    obtain rfl : cart = .flat32 f := hf
    refine ⟨?_, fun hc => ?_⟩
    · rw [ppuMemRead_pattern _ ha, Mapper.ppuRead, chrIndex_pattern ha]
    · simp only [w, ppuMemWrite_pattern _ b ha, ppuMemRead_pattern _ hc, Mapper.ppuRead, Mapper.ppuWrite,
        Memory.read_write, chrIndex_pattern ha, chrIndex_pattern hc, BitVec.toNat_inj]
  · simp only [w, ppuMemWrite_palette g b ha, ppuMemRead_palette _ hc, Memory.read_write, palIndex_toNat]
    rfl
  · have hcells : ∀ m n, cell m n = ntCell m n := fun m n => by cases m <;> rfl
    have hread : ∀ u : Ppu, ppuMemRead { g with ppu := u } c = _ := fun u =>
      ppuMemRead_nametable { g with ppu := u } hc1 hc2 hm
    simp only [w, ppuMemWrite_nametable g b ha1 ha2 hm, hread g.ppu, hread, Memory.read_write,
      ntIndex_eq_ntCell, hcells]

end Sys2Proof.Machine
end

section
/-! The family of 61_ppu.md, the dots: a rendering dot as its stages, each known by what it writes; the flags a dot
raises whatever it renders; a dot that renders nothing. -/

namespace Sys2Proof.Machine

/-! ### What each stage of a dot writes -/

/-- `u` with the flags that R264 to R266 move taken from `d`. -/
def Ppu.withFlags (u d : Ppu) : Ppu :=
  { u with
      vblank := d.vblank
      pendingNmi := d.pendingNmi
      frameReady := d.frameReady
      sprite0Hit := d.sprite0Hit
      spriteOverflow := d.spriteOverflow }

/-- `u` with all that the timed events and the pixel of a dot write taken from `d`. -/
def Ppu.withPixel (u d : Ppu) : Ppu := { u.withFlags d with fb := d.fb, spr := d.spr }

/-- `u` with the registers of the background fetches and `v` taken from `d`. -/
def Ppu.withFetch (u d : Ppu) : Ppu :=
  { u with
      bgPatLo := d.bgPatLo
      bgPatHi := d.bgPatHi
      bgAttrLo := d.bgAttrLo
      bgAttrHi := d.bgAttrHi
      atLatchLo := d.atLatchLo
      atLatchHi := d.atLatchHi
      ntByte := d.ntByte
      atBits := d.atBits
      patLo := d.patLo
      patHi := d.patHi
      v := d.v }

/-- `u` with what the scroll updates and the evaluation write taken from `d`. -/
def Ppu.withScroll (u d : Ppu) : Ppu := { u with v := d.v, sec := d.sec, spriteOverflow := d.spriteOverflow }

/-- `u` with the output units of `d`. -/
def Ppu.withUnits (u d : Ppu) : Ppu := { u with spr := d.spr }

/-- `u` at the position of `d`. -/
def Ppu.withPlace (u d : Ppu) : Ppu := { u with dot := d.dot, scanline := d.scanline, oddFrame := d.oddFrame }

/-- The timed events in one equation: at (241, 1), at (-1, 1) and at (240, 0) (R264 to R266, D33, D34). -/
theorem timedEvents_eq (u : Ppu) : timedEvents u =
    { u with
        vblank :=
          if u.scanline = 241 ∧ u.dot = 1 then true else if u.scanline = -1 ∧ u.dot = 1 then false else u.vblank
        pendingNmi := u.pendingNmi || (decide (u.scanline = 241 ∧ u.dot = 1) && u.ctrl.getLsbD 7)
        frameReady := u.frameReady || decide (u.scanline = 240 ∧ u.dot = 0)
        sprite0Hit := u.sprite0Hit && !decide (u.scanline = -1 ∧ u.dot = 1)
        spriteOverflow := u.spriteOverflow && !decide (u.scanline = -1 ∧ u.dot = 1) } := by
  have hready : (u.scanline = Config.frameReadyScanline ∧ u.dot = Config.frameReadyDot) ↔
      (u.scanline = 240 ∧ u.dot = 0) := Iff.rfl
  simp only [timedEvents, vblankOnset, hready]
  by_cases hset : u.scanline = 241 ∧ u.dot = 1
  · simp [hset]
  · by_cases hclear : u.scanline = -1 ∧ u.dot = 1
    · simp [hclear]
    · by_cases hframe : u.scanline = 240 ∧ u.dot = 0 <;> simp [hset, hclear, hframe]

theorem timedEvents_frame (u : Ppu) : timedEvents u = u.withFlags (timedEvents u) := by
  rw [timedEvents_eq]
  rfl

theorem dotPixel_frame (g : PpuSide) : (dotPixel g).ppu =
    { g.ppu with
        sprite0Hit := (dotPixel g).ppu.sprite0Hit
        fb := (dotPixel g).ppu.fb
        spr := (dotPixel g).ppu.spr } := by
  unfold dotPixel
  split_ifs <;> rfl

theorem bgFetchStep_frame (g : PpuSide) (ph : Nat) :
    (bgFetchStep g ph).ppu = g.ppu.withFetch (bgFetchStep g ph).ppu := by
  unfold bgFetchStep
  dsimp only
  split_ifs
  on_goal 5 => rfl
  all_goals simp only [ppuMemRead_ppu]; rfl

theorem dotFetch_frame (g : PpuSide) : (dotFetch g).ppu = g.ppu.withFetch (dotFetch g).ppu := by
  unfold dotFetch
  split_ifs
  · exact bgFetchStep_frame { g with ppu := bgShift g.ppu } _
  · rfl

theorem dotScroll_frame (u : Ppu) : dotScroll u = u.withScroll (dotScroll u) := by
  unfold dotScroll copyHorizontal copyVertical spriteEvaluate
  dsimp only
  split_ifs <;> rfl

theorem dotSprite_frame (g : PpuSide) : (dotSprite g).ppu = g.ppu.withUnits (dotSprite g).ppu := by
  unfold dotSprite spriteFetch
  split_ifs
  · split <;> simp only [ppuMemRead_ppu] <;> rfl
  · rfl

theorem advanceDot_frame (re : Bool) (u : Ppu) : advanceDot re u = u.withPlace (advanceDot re u) := by
  unfold advanceDot
  dsimp only
  split_ifs <;> rfl

theorem bgFetchStep_withPixel (g : PpuSide) (d : Ppu) (ph : Nat) :
    bgFetchStep { g with ppu := g.ppu.withPixel d } ph =
      { bgFetchStep g ph with ppu := (bgFetchStep g ph).ppu.withPixel d } := by
  have hread : ∀ a, ppuMemRead { g with ppu := g.ppu.withPixel d } a = _ := fun a =>
    ppuMemRead_withPpu g (g.ppu.withPixel d) a rfl rfl
  unfold bgFetchStep
  dsimp only
  split_ifs
  on_goal 5 => rfl
  all_goals simp only [hread, ppuMemRead_ppu]; rfl

/-- The background fetch neither reads nor moves the flags, the framebuffer and the sprite units. -/
theorem dotFetch_withPixel (g : PpuSide) (d : Ppu) : dotFetch { g with ppu := g.ppu.withPixel d } =
    { dotFetch g with ppu := (dotFetch g).ppu.withPixel d } := by
  have hdot : (g.ppu.withPixel d).dot = g.ppu.dot := rfl
  simp only [dotFetch, hdot]
  split_ifs
  · exact bgFetchStep_withPixel { g with ppu := bgShift g.ppu } d _
  · rfl

/-! ### A dot as its stages -/

/-- Whether a dot renders: rendering enabled, on the lines -1 to 239 (R262). -/
abbrev Ppu.Renders (u : Ppu) : Prop := u.rendering = true ∧ -1 ≤ u.scanline ∧ u.scanline ≤ 239

/-- The unit after the timed events and the pixel of a dot. -/
def afterPixel (g : PpuSide) : Ppu := (dotPixel { g with ppu := timedEvents g.ppu }).ppu

/-- The side after the background fetch of a rendering dot. -/
def afterFetch (g : PpuSide) : PpuSide := { dotFetch g with ppu := (dotFetch g).ppu.withPixel (afterPixel g) }

/-- The side after the sprite fetch of a rendering dot. -/
def afterSprite (g : PpuSide) : PpuSide := dotSprite { afterFetch g with ppu := dotScroll (afterFetch g).ppu }

theorem afterPixel_frame (g : PpuSide) : afterPixel g = g.ppu.withPixel (afterPixel g) := by
  have h := dotPixel_frame { g with ppu := timedEvents g.ppu }
  rw [timedEvents_frame g.ppu] at h
  rw [afterPixel, timedEvents_frame g.ppu]
  generalize dotPixel _ = p at h ⊢
  rw [h]
  rfl

/-- The unit before the scroll updates of a rendering dot. -/
theorem afterFetch_frame (g : PpuSide) :
    (afterFetch g).ppu = (g.ppu.withFetch (dotFetch g).ppu).withPixel (afterPixel g) := by
  rw [← dotFetch_frame]
  rfl

theorem renderDot_timedEvents (g : PpuSide) : renderDot { g with ppu := timedEvents g.ppu } = afterSprite g := by
  have hpixel : dotPixel { g with ppu := timedEvents g.ppu } = { g with ppu := g.ppu.withPixel (afterPixel g) } := by
    rw [← afterPixel_frame]
    exact congrArg (PpuSide.mk _) (dotPixel_cart _)
  rw [renderDot, hpixel, dotFetch_withPixel]
  rfl

/-- A rendering dot is its stages and the move to the next dot (R262). -/
theorem ppuTick_of_renders {g : PpuSide} (h : g.ppu.Renders) :
    ppuTick g = { afterSprite g with ppu := advanceDot g.ppu.rendering (afterSprite g).ppu } := by
  rw [← renderDot_timedEvents, ppuTick, if_pos h]

/-- A dot that renders nothing is its timed events and the move to the next dot (R262). -/
theorem ppuTick_of_not_renders {g : PpuSide} (h : ¬ g.ppu.Renders) :
    ppuTick g = { g with ppu := advanceDot g.ppu.rendering (timedEvents g.ppu) } := by
  rw [ppuTick, if_neg h]

/-- Which stage of a rendering dot each field comes from. -/
theorem ppuTick_stages {g : PpuSide} (h : g.ppu.Renders) : (ppuTick g).ppu =
    (((afterFetch g).ppu.withScroll (dotScroll (afterFetch g).ppu)).withUnits (afterSprite g).ppu).withPlace
      (ppuTick g).ppu := by
  have hsprite : (afterSprite g).ppu = (dotScroll (afterFetch g).ppu).withUnits (afterSprite g).ppu :=
    dotSprite_frame _
  rw [← dotScroll_frame, ← hsprite, ppuTick_of_renders h]
  exact advanceDot_frame _ _

/-- Where each field of a dot that renders nothing comes from. -/
theorem ppuTick_dark_stages {g : PpuSide} (h : ¬ g.ppu.Renders) :
    (ppuTick g).ppu = (g.ppu.withFlags (timedEvents g.ppu)).withPlace (ppuTick g).ppu := by
  rw [← timedEvents_frame, ppuTick_of_not_renders h]
  exact advanceDot_frame _ _

/-! ### The flags -/

/-- The flags that a dot raises whatever it renders are those of its timed events. -/
theorem ppuTick_events (g : PpuSide) :
    (ppuTick g).ppu.vblank = (timedEvents g.ppu).vblank ∧
      (ppuTick g).ppu.pendingNmi = (timedEvents g.ppu).pendingNmi ∧
      (ppuTick g).ppu.frameReady = (timedEvents g.ppu).frameReady := by
  by_cases h : g.ppu.Renders
  · have hstages := ppuTick_stages h
    have hpixel := dotPixel_frame { g with ppu := timedEvents g.ppu }
    exact ⟨(congrArg Ppu.vblank hstages).trans (congrArg Ppu.vblank hpixel :),
      (congrArg Ppu.pendingNmi hstages).trans (congrArg Ppu.pendingNmi hpixel :),
      (congrArg Ppu.frameReady hstages).trans (congrArg Ppu.frameReady hpixel :)⟩
  · have hstages := ppuTick_dark_stages h
    exact ⟨(congrArg Ppu.vblank hstages :), (congrArg Ppu.pendingNmi hstages :),
      (congrArg Ppu.frameReady hstages :)⟩

/-- On the visible lines, and past dot 1 of any line, no timed event happens. -/
theorem timedEvents_none {u : Ppu} (h : (0 ≤ u.scanline ∧ u.scanline ≤ 239) ∨ 2 ≤ u.dot) : timedEvents u = u := by
  have hset : ¬ (u.scanline = 241 ∧ u.dot = 1) := by omega
  have hclear : ¬ (u.scanline = -1 ∧ u.dot = 1) := by omega
  have hframe : ¬ (u.scanline = 240 ∧ u.dot = 0) := by omega
  rw [timedEvents_eq]
  simp [hset, hclear, hframe]

/-- Whether a dot emits a pixel (R262, R267). -/
abbrev Ppu.Emits (u : Ppu) : Prop := u.rendering = true ∧ 0 ≤ u.scanline ∧ u.scanline ≤ 239 ∧ 1 ≤ u.dot ∧ u.dot ≤ 256

theorem Ppu.Emits.renders {u : Ppu} (h : u.Emits) : u.Renders := by
  obtain ⟨hr, hs, hs', _⟩ := h
  exact ⟨hr, by omega, hs'⟩

/-- The pixel stage of a dot that emits one. -/
theorem afterPixel_of_emits {g : PpuSide} (h : g.ppu.Emits) : afterPixel g = emitPixel g.ppu (g.ppu.dot - 1) := by
  obtain ⟨_, hs, hs', hd, hd'⟩ := h
  rw [afterPixel, timedEvents_none (.inl ⟨hs, hs'⟩), dotPixel, if_pos ⟨hs, hd, hd'⟩]

/-- The pixel stage of a rendering dot that emits none. -/
theorem afterPixel_of_not_emits {g : PpuSide} (hr : g.ppu.Renders) (h : ¬ g.ppu.Emits) :
    afterPixel g = timedEvents g.ppu := by
  obtain ⟨hdot, hscan, _⟩ := timedEvents_place g.ppu
  obtain ⟨hre, _, hs⟩ := hr
  rw [afterPixel, dotPixel, if_neg]
  rw [hdot, hscan]
  exact fun hv => h ⟨hre, hv.1, hs, hv.2⟩

/-- The framebuffer and the sprite-0-hit flag change by the pixel, and the flag by the timed events (R262, R267). -/
theorem ppuTick_pixel (g : PpuSide) :
    ((ppuTick g).ppu.fb, (ppuTick g).ppu.sprite0Hit) =
      if g.ppu.Emits then
        ((emitPixel g.ppu (g.ppu.dot - 1)).fb, (emitPixel g.ppu (g.ppu.dot - 1)).sprite0Hit)
      else (g.ppu.fb, (timedEvents g.ppu).sprite0Hit) := by
  by_cases h : g.ppu.Renders
  · have hstages := congrArg (fun u : Ppu => (u.fb, u.sprite0Hit)) (ppuTick_stages h)
    refine hstages.trans ?_
    change ((afterPixel g).fb, (afterPixel g).sprite0Hit) = _
    by_cases he : g.ppu.Emits
    · rw [if_pos he, afterPixel_of_emits he]
    · rw [if_neg he, afterPixel_of_not_emits h he, timedEvents_frame]
      rfl
  · rw [if_neg fun he => h he.renders]
    exact congrArg (fun u : Ppu => (u.fb, u.sprite0Hit)) (ppuTick_dark_stages h)

/-! ### Evaluation -/

/-- Evaluation is at dot 257 and at no other (R280, D41). -/
theorem dotScroll_evaluation (u : Ppu) : ((dotScroll u).sec, (dotScroll u).spriteOverflow) =
    if u.dot = 257 then ((spriteEvaluate u).sec, (spriteEvaluate u).spriteOverflow) else (u.sec, u.spriteOverflow) := by
  by_cases h : u.dot = 257
  · have h256 : ¬ u.dot = 256 := by omega
    simp only [dotScroll, if_neg h256, if_pos h]
    rw [if_neg (by omega)]
    unfold spriteEvaluate copyHorizontal
    dsimp only
    split_ifs <;> rfl
  · simp only [dotScroll, if_neg h]
    split_ifs <;> rfl

/-- What evaluation reads: the line, OAM, the sprite height and the flag it keeps (R280). -/
theorem spriteEvaluate_congr {u w : Ppu} (hs : w.scanline = u.scanline) (ho : w.oam = u.oam) (hc : w.ctrl = u.ctrl)
    (hf : w.spriteOverflow = u.spriteOverflow) :
    ((spriteEvaluate w).sec, (spriteEvaluate w).spriteOverflow) =
      ((spriteEvaluate u).sec, (spriteEvaluate u).spriteOverflow) := by
  have hline : spritesOnLine w w.scanline = spritesOnLine u u.scanline := by
    rw [spritesOnLine, spritesOnLine, spriteHeight, spriteHeight, hs, ho, hc]
  simp only [spriteEvaluate, hs]
  rw [hs] at hline
  split_ifs
  · rw [hf]
  · rw [hline, hf]

theorem afterPixel_spriteOverflow (g : PpuSide) : (afterPixel g).spriteOverflow = (timedEvents g.ppu).spriteOverflow :=
  (congrArg Ppu.spriteOverflow (dotPixel_frame { g with ppu := timedEvents g.ppu }) :)

/-- Secondary OAM and the overflow flag after a rendering dot (R265, R280, D41). -/
theorem ppuTick_evaluation {g : PpuSide} (h : g.ppu.Renders) :
    ((ppuTick g).ppu.sec, (ppuTick g).ppu.spriteOverflow) =
      if g.ppu.dot = 257 then ((spriteEvaluate g.ppu).sec, (spriteEvaluate g.ppu).spriteOverflow)
      else (g.ppu.sec, (timedEvents g.ppu).spriteOverflow) := by
  have hstages := (congrArg (fun u : Ppu => (u.sec, u.spriteOverflow)) (ppuTick_stages h)).trans
    (dotScroll_evaluation (afterFetch g).ppu :)
  have hflag := afterPixel_spriteOverflow g
  rw [hstages, afterFetch_frame]
  by_cases hd : g.ppu.dot = 257
  · rw [timedEvents_none (.inr (by omega))] at hflag
    rw [if_pos hd]
    exact (if_pos hd).trans (spriteEvaluate_congr rfl rfl rfl hflag)
  · rw [if_neg hd, ← hflag]
    exact if_neg hd

/-- Only the evaluation at dot 257 and the timed events write the overflow flag (R265, R280). -/
theorem ppuTick_spriteOverflow (g : PpuSide) (h : ¬ (g.ppu.Renders ∧ g.ppu.dot = 257)) :
    (ppuTick g).ppu.spriteOverflow = (timedEvents g.ppu).spriteOverflow := by
  by_cases hr : g.ppu.Renders
  · have heval := ppuTick_evaluation hr
    rw [if_neg fun hd => h ⟨hr, hd⟩] at heval
    exact congrArg Prod.snd heval
  · exact (congrArg Ppu.spriteOverflow (ppuTick_dark_stages hr) :)

/-! ### Vblank, NMI and the frame -/

/-- Settles O48: the three flags are those of the timed events, and the pre-render line emits and evaluates nothing at
its dot 1. -/
theorem vblankNmiAndFrameReadyEvents : Obligations.VblankNmiAndFrameReadyEvents := by
  intro g
  dsimp only
  obtain ⟨hvblank, hnmi, hframe⟩ := ppuTick_events g
  have heq := timedEvents_eq g.ppu
  refine ⟨hvblank.trans (congrArg Ppu.vblank heq :), hnmi.trans (congrArg Ppu.pendingNmi heq :),
    hframe.trans (congrArg Ppu.frameReady heq :), fun hclear => ?_⟩
  have hpixel := ppuTick_pixel g
  rw [if_neg fun ⟨_, he, _⟩ => by omega] at hpixel
  have hoverflow := ppuTick_spriteOverflow g fun hd => by omega
  refine ⟨(congrArg Prod.snd hpixel).trans ?_, hoverflow.trans ?_⟩ <;> rw [heq] <;> simp [hclear]

/-! ### A dot that renders nothing -/

/-- Settles O50: such a dot is its timed events and the next position. -/
theorem darkDotDrawsAndFetchesNothing : Obligations.DarkDotDrawsAndFetchesNothing := by
  intro g hdark q
  have hr : ¬ g.ppu.Renders := by
    rintro ⟨hre, _, hs⟩
    rcases hdark with ⟨h3, h4⟩ | hline
    · rw [Ppu.rendering, h3, h4] at hre
      contradiction
    · omega
  have hskip : g.ppu.LineEnds g.ppu.rendering ↔ g.ppu.dot + 1 > 340 := by
    have hno : ¬ (g.ppu.scanline = -1 ∧ g.ppu.dot = 339 ∧ g.ppu.oddFrame = true ∧ g.ppu.rendering = true) := by
      rintro ⟨hs, _, _, hre⟩
      exact hr ⟨hre, by omega, by omega⟩
    simp only [Ppu.LineEnds, hno, or_false]
    omega
  obtain ⟨hdot, _, _⟩ := nextPlace_fields (ppuTick_place g)
  have hstages : q.ppu = _ := ppuTick_dark_stages hr
  have heq := timedEvents_eq g.ppu
  have hhit : q.ppu.sprite0Hit = _ := (congrArg Ppu.sprite0Hit hstages).trans (congrArg Ppu.sprite0Hit heq :)
  have hoverflow : q.ppu.spriteOverflow = _ :=
    (congrArg Ppu.spriteOverflow hstages).trans (congrArg Ppu.spriteOverflow heq :)
  refine ⟨(congrArg PpuSide.cart (ppuTick_of_not_renders hr) :), ?_, hdot.trans (by simp only [hskip]), fun h => ?_,
    fun h => ?_⟩
  · rw [hstages]
    rfl
  · rw [hhit, Bool.and_eq_true] at h
    exact h.1
  · rw [hoverflow, Bool.and_eq_true] at h
    exact h.1

end Sys2Proof.Machine
end

section
/-! The family of 61_ppu.md, the pixel: what each layer shows in numbers, the first opaque output unit, the entry of
the palette the multiplexer picks, and the sprite-0 hit. -/

namespace Sys2Proof.Machine

/-! ### The layers -/

theorem toNat_twoBits (lo hi : Bool) : (bitOf 2 lo ||| bitOf 2 hi <<< 1).toNat = lo.toNat + 2 * hi.toNat := by
  cases lo <;> cases hi <;> rfl

theorem twoBits_ne_zero (lo hi : Bool) : bitOf 2 lo ||| bitOf 2 hi <<< 1 ≠ 0 ↔ (lo || hi) = true := by
  cases lo <;> cases hi <;> decide

/-- Whether a layer is shown in column `px`, by its show bit and its left-edge bit (R254, D30). -/
def Ppu.layerOn (u : Ppu) (showBit edgeBit px : Nat) : Bool :=
  u.mask.getLsbD showBit && (decide (8 ≤ px) || u.mask.getLsbD edgeBit)

/-- The condition the two layers test for being hidden. -/
theorem layer_hidden_eq (u : Ppu) (showBit edgeBit px : Nat) :
    (!u.mask.getLsbD showBit || (decide (px < 8) && !u.mask.getLsbD edgeBit)) = !u.layerOn showBit edgeBit px := by
  have hedge : decide (px < 8) = !decide (8 ≤ px) := by rw [← decide_not, decide_eq_decide, Nat.not_le]
  rw [Ppu.layerOn, hedge, Bool.not_and, Bool.not_or]

theorem bgPixel_eq (u : Ppu) (px : Nat) : bgPixel u px =
    if u.layerOn 3 1 px then
      (bitOf 2 (u.bgPatLo.getLsbD (15 - u.x.toNat)) ||| bitOf 2 (u.bgPatHi.getLsbD (15 - u.x.toNat)) <<< 1,
        bitOf 2 (u.bgAttrLo.getLsbD (7 - u.x.toNat)) ||| bitOf 2 (u.bgAttrHi.getLsbD (7 - u.x.toNat)) <<< 1)
    else (0, 0) := by
  rw [bgPixel, layer_hidden_eq]
  cases u.layerOn 3 1 px <;> rfl

theorem spritePixel_eq (u : Ppu) (px : Nat) :
    spritePixel u px = if u.layerOn 4 2 px then firstOpaque u.spr else none := by
  rw [spritePixel, layer_hidden_eq]
  cases u.layerOn 4 2 px <;> rfl

/-- Whether a unit is active with an opaque pixel (R282). -/
def SprUnit.isOpaque (un : SprUnit) : Bool := un.valid && decide (un.xcnt = 0) && (un.lo.getLsbD 7 || un.hi.getLsbD 7)

theorem SprUnit.isOpaque_iff (un : SprUnit) : un.isOpaque = true ↔ un.valid ∧ un.xcnt = 0 ∧ un.colour ≠ 0 := by
  rw [SprUnit.isOpaque, SprUnit.colour, twoBits_ne_zero, Bool.and_eq_true, Bool.and_eq_true, decide_eq_true_eq,
    and_assoc]

/-- What a unit offers at a pixel (R282). -/
def SprUnit.pixel (un : SprUnit) : SpritePixel :=
  { colour := un.colour, palette := un.attr.setWidth 2, priority := un.attr.getLsbD 5, isZero := decide (un.id = 0) }

/-- The sprite layer shows the first opaque unit in unit order (R282, R283). -/
theorem firstOpaque_eq_find (us : List SprUnit) : firstOpaque us = (us.find? SprUnit.isOpaque).map SprUnit.pixel := by
  induction us with
  | nil => rfl
  | cons un us ih =>
    rw [firstOpaque, List.find?_cons, ih]
    by_cases h : un.isOpaque = true
    · rw [if_pos (un.isOpaque_iff.mp h), h]
      rfl
    · rw [if_neg fun hc => h (un.isOpaque_iff.mpr hc), Bool.eq_false_iff.mpr h]

/-! ### The palette entry -/

/-- A palette index with an opaque colour is its own entry (R271). -/
theorem palIndex_paletteIdx (sprite : Bool) (q c : BitVec 2) (h : c ≠ 0) :
    (palIndex (paletteIdx sprite q c)).toNat = (if sprite then 16 else 0) + 4 * q.toNat + c.toNat := by
  revert sprite q c
  decide

/-- The palette entry of a background colour `bc` of palette `bq` behind a sprite's (R271, R283, D43). -/
def muxEntry (bc bq : Nat) : Option SprUnit → Nat
  | none => if bc = 0 then 0 else 4 * bq + bc
  | some un =>
    if bc = 0 ∨ un.attr.getLsbD 5 = false then
      16 + 4 * (un.attr.toNat % 4) + ((un.lo.getLsbD 7).toNat + 2 * (un.hi.getLsbD 7).toNat)
    else 4 * bq + bc

/-- The sprite wins where the background is transparent or the priority bit is 0 (R283, D43). -/
theorem muxIndex_some (bg : BitVec 2 × BitVec 2) (o : SpritePixel) : muxIndex bg (some o) =
    if bg.1 = 0 ∨ o.priority = false then paletteIdx true o.palette o.colour else paletteIdx false bg.2 bg.1 := by
  cases hp : o.priority <;> simp [muxIndex, hp]

/-- The entry of a unit's pixel: the sprite half, the palette bits, the colour (R271, R282). -/
theorem palIndex_unit (un : SprUnit) (h : un.colour ≠ 0) :
    (palIndex (paletteIdx true un.pixel.palette un.pixel.colour)).toNat =
      16 + 4 * (un.attr.toNat % 4) + ((un.lo.getLsbD 7).toNat + 2 * (un.hi.getLsbD 7).toNat) := by
  have hpalette : un.pixel.palette.toNat = un.attr.toNat % 4 := BitVec.toNat_setWidth 2 un.attr
  have hcolour : un.pixel.colour.toNat = _ := toNat_twoBits (un.lo.getLsbD 7) (un.hi.getLsbD 7)
  rw [palIndex_paletteIdx _ _ un.pixel.colour h, hpalette, hcolour, if_pos rfl]

theorem palIndex_muxIndex (bg : BitVec 2 × BitVec 2) (front : Option SprUnit) (h : ∀ un ∈ front, un.isOpaque = true) :
    (palIndex (muxIndex bg (front.map SprUnit.pixel))).toNat = muxEntry bg.1.toNat bg.2.toNat front := by
  have hzero : bg.1 = 0 ↔ bg.1.toNat = 0 := BitVec.toNat_eq
  have hback : bg.1 ≠ 0 → (palIndex (paletteIdx false bg.2 bg.1)).toNat = 4 * bg.2.toNat + bg.1.toNat := fun hc => by
    rw [palIndex_paletteIdx _ _ _ hc]
    simp
  cases front with
  | none =>
    simp only [Option.map_none, muxIndex, muxEntry, ← hzero]
    split_ifs with hc
    · rfl
    · exact hback hc
  | some un =>
    obtain ⟨_, _, hcolour⟩ := un.isOpaque_iff.mp (h un rfl)
    have hpriority : un.pixel.priority = un.attr.getLsbD 5 := rfl
    simp only [Option.map_some, muxIndex_some, muxEntry, ← hzero, hpriority]
    split_ifs with hc
    · exact palIndex_unit un hcolour
    · exact hback fun h0 => hc (.inl h0)

/-! ### The pixel -/

/-- A pixel is written at its own place and at no other (R285, R354). -/
theorem emitPixel_fbWord (u : Ppu) {px row col : Nat} (hpx : px < 256) (hcol : col < 256) :
    (emitPixel u px).fbWord row col =
      if u.scanline.toNat = row ∧ px = col then
        Config.palette (colourIndex u (muxIndex (bgPixel u px) (spritePixel u px)))
      else u.fbWord row col := by
  simp only [Ppu.fbWord, emitPixel, spriteUnitsStep]
  split_ifs with h
  · obtain ⟨hrow, hpc⟩ := h
    rw [hrow, hpc, sparseGet_set_self]
  · rw [sparseGet_set_other]
    omega

theorem Ppu.fbWord_congr {u q : Ppu} (h : q.fb = u.fb) (row col : Nat) : q.fbWord row col = u.fbWord row col := by
  rw [Ppu.fbWord, Ppu.fbWord, h]

/-- The unit the sprite layer shows in column `px`: the first opaque one, where the layer is on (R282). -/
def Ppu.frontUnit (u : Ppu) (px : Nat) : Option SprUnit :=
  if u.layerOn 4 2 px then u.spr.find? SprUnit.isOpaque else none

theorem Ppu.frontUnit_isOpaque (u : Ppu) (px : Nat) : ∀ un ∈ u.frontUnit px, un.isOpaque = true := by
  intro un h
  rw [Ppu.frontUnit] at h
  split_ifs at h
  · exact List.find?_some h
  · contradiction

theorem spritePixel_eq_frontUnit (u : Ppu) (px : Nat) : spritePixel u px = (u.frontUnit px).map SprUnit.pixel := by
  rw [spritePixel_eq, Ppu.frontUnit, firstOpaque_eq_find]
  split_ifs <;> rfl

/-- The background's colour number in column `px`, 0 where the layer is off (R279). -/
def Ppu.backColour (u : Ppu) (px : Nat) : Nat :=
  if u.layerOn 3 1 px then
    (u.bgPatLo.getLsbD (15 - u.x.toNat)).toNat + 2 * (u.bgPatHi.getLsbD (15 - u.x.toNat)).toNat
  else 0

/-- The background's palette number (R279). -/
def Ppu.backPalette (u : Ppu) : Nat :=
  (u.bgAttrLo.getLsbD (7 - u.x.toNat)).toNat + 2 * (u.bgAttrHi.getLsbD (7 - u.x.toNat)).toNat

/-- A transparent background has no palette to show. -/
theorem muxEntry_transparent (bq bq' : Nat) (front : Option SprUnit) : muxEntry 0 bq front = muxEntry 0 bq' front := by
  cases front <;> rfl

theorem palIndex_pixel (u : Ppu) (px : Nat) : (palIndex (muxIndex (bgPixel u px) (spritePixel u px))).toNat =
    muxEntry (u.backColour px) u.backPalette (u.frontUnit px) := by
  rw [spritePixel_eq_frontUnit, palIndex_muxIndex _ _ (u.frontUnit_isOpaque px), bgPixel_eq, Ppu.backColour]
  split_ifs
  · rw [toNat_twoBits, toNat_twoBits, Ppu.backPalette]
  · exact muxEntry_transparent _ _ _

/-- The colour index of a pixel: the entry's byte, ANDed with $30 in greyscale (R285, D45). -/
theorem colourIndex_pixel (u : Ppu) (px : Nat) :
    colourIndex u (muxIndex (bgPixel u px) (spritePixel u px)) =
      let c : BitVec 6 := (u.pal.read (muxEntry (u.backColour px) u.backPalette (u.frontUnit px))).setWidth 6
      if u.mask.getLsbD 0 then c &&& 0x30 else c := by
  rw [colourIndex, palIndex_pixel]

/-- Settles O54: the dot's pixel is `emit_pixel`, whose palette entry is that of the two layers. -/
theorem eachVisibleDotEmitsOnePixel : Obligations.EachVisibleDotEmitsOnePixel := by
  unfold Obligations.EachVisibleDotEmitsOnePixel
  intro g row col hcol u x layerShown two bc bq front entry c
  have hplace : (u.rendering = true ∧ 0 ≤ u.scanline ∧ u.scanline ≤ 239 ∧ u.scanline = row ∧ 1 ≤ u.dot ∧
      u.dot = col + 1) ↔ u.Emits ∧ u.scanline.toNat = row ∧ u.dot - 1 = col := by
    clear_value u
    constructor
    · rintro ⟨hr, hs, hs', hrow, hd, hdot⟩
      exact ⟨⟨hr, hs, hs', hd, by omega⟩, by omega, by omega⟩
    · rintro ⟨⟨hr, hs, hs', hd, _⟩, hrow, hdot⟩
      exact ⟨hr, hs, hs', by omega, hd, by omega⟩
  have hfb := congrArg Prod.fst (ppuTick_pixel g)
  rw [if_congr hplace rfl rfl]
  by_cases he : u.Emits
  · rw [if_pos he] at hfb
    have hpx : u.dot - 1 < 256 := by
      obtain ⟨_, _, _, hd, hd'⟩ := he
      clear_value u
      omega
    rw [Ppu.fbWord_congr hfb, emitPixel_fbWord u hpx hcol]
    by_cases hat : u.scanline.toNat = row ∧ u.dot - 1 = col
    · rw [if_pos hat, if_pos ⟨he, hat⟩, colourIndex_pixel, hat.2]
      rfl
    · rw [if_neg hat, if_neg fun h => hat h.2]
  · rw [if_neg he] at hfb
    rw [Ppu.fbWord_congr hfb, if_neg fun h => he h.1]

/-! ### The sprite-0 hit -/

theorem Ppu.layerOn_iff (u : Ppu) (showBit edgeBit px : Nat) : u.layerOn showBit edgeBit px = true ↔
    u.mask.getLsbD showBit = true ∧ (px < 8 → u.mask.getLsbD edgeBit = true) := by
  rw [Ppu.layerOn, Bool.and_eq_true, Bool.or_eq_true, decide_eq_true_eq, ← Nat.not_lt, ← imp_iff_not_or]

/-- A pixel hits sprite 0 where both layers are on and opaque and the first opaque unit is sprite 0's, in the columns 1
to 254 (R284, D44). -/
theorem spriteZeroHits_iff (u : Ppu) (px : Nat) :
    spriteZeroHits (bgPixel u px) (spritePixel u px) px = true ↔
      u.layerOn 3 1 px = true ∧ u.layerOn 4 2 px = true ∧
        (u.bgPatLo.getLsbD (15 - u.x.toNat) || u.bgPatHi.getLsbD (15 - u.x.toNat)) = true ∧
        (∃ un, u.spr.find? SprUnit.isOpaque = some un ∧ un.id = 0) ∧ 1 ≤ px ∧ px ≤ 254 := by
  rw [bgPixel_eq, spritePixel_eq, firstOpaque_eq_find, ← twoBits_ne_zero]
  generalize bitOf 2 (u.bgPatLo.getLsbD _) ||| bitOf 2 (u.bgPatHi.getLsbD _) <<< 1 = colour
  cases u.layerOn 3 1 px
  · cases u.layerOn 4 2 px <;> cases u.spr.find? SprUnit.isOpaque <;> simp [spriteZeroHits]
  · cases u.layerOn 4 2 px
    · simp [spriteZeroHits]
    · cases u.spr.find? SprUnit.isOpaque <;> simp [spriteZeroHits, SprUnit.pixel, and_assoc, and_left_comm]

/-- The first opaque unit: opaque itself, with none before it in unit order. -/
theorem find_isOpaque_iff (us : List SprUnit) (un : SprUnit) : us.find? SprUnit.isOpaque = some un ↔
    ∃ i : Nat, us[i]? = some un ∧ un.isOpaque = true ∧ ∀ j un', j < i → us[j]? = some un' → ¬ un'.isOpaque = true := by
  rw [List.find?_eq_some_iff_getElem]
  constructor
  · rintro ⟨hopaque, i, hi, hun, hbefore⟩
    refine ⟨i, List.getElem?_eq_some_iff.mpr ⟨hi, hun⟩, hopaque, fun j un' hj hun' => ?_⟩
    obtain ⟨_, rfl⟩ := List.getElem?_eq_some_iff.mp hun'
    simpa using hbefore j hj
  · rintro ⟨i, hi, hopaque, hbefore⟩
    obtain ⟨hlt, hun⟩ := List.getElem?_eq_some_iff.mp hi
    refine ⟨hopaque, i, hlt, hun, fun j hj => ?_⟩
    simpa using hbefore j _ hj (List.getElem?_eq_getElem (hj.trans hlt))

theorem SprUnit.isOpaque_iff_bits (un : SprUnit) : un.isOpaque = true ↔
    un.valid = true ∧ un.xcnt = 0 ∧ (un.lo.getLsbD 7 || un.hi.getLsbD 7) = true := by
  rw [SprUnit.isOpaque_iff, SprUnit.colour, twoBits_ne_zero]

/-- Settles O55: the flag is set by the pixel of the dot, and cleared by the timed events alone. -/
theorem spriteZeroHitExactlyAtTheOverlap : Obligations.SpriteZeroHitExactlyAtTheOverlap := by
  intro g
  dsimp only
  simp only [← SprUnit.isOpaque_iff_bits]
  have hfirst : (∃ (i : Nat) (un : SprUnit), g.ppu.spr[i]? = some un ∧ un.isOpaque = true ∧ un.id = 0 ∧
      ∀ j un', j < i → g.ppu.spr[j]? = some un' → ¬ un'.isOpaque = true) ↔
      ∃ un, g.ppu.spr.find? SprUnit.isOpaque = some un ∧ un.id = 0 := by
    simp only [find_isOpaque_iff]
    exact ⟨fun ⟨i, un, hi, ho, hid, hb⟩ => ⟨un, ⟨i, hi, ho, hb⟩, hid⟩,
      fun ⟨un, ⟨i, hi, ho, hb⟩, hid⟩ => ⟨i, un, hi, ho, hid, hb⟩⟩
  have hhit := congrArg Prod.snd (ppuTick_pixel g)
  have hclear : (timedEvents g.ppu).sprite0Hit = true ↔
      g.ppu.sprite0Hit = true ∧ ¬ (g.ppu.scanline = -1 ∧ g.ppu.dot = 1) := by
    rw [timedEvents_eq, Bool.and_eq_true, Bool.not_eq_true', decide_eq_false_iff_not]
  rw [hfirst]
  by_cases he : g.ppu.Emits
  · rw [if_pos he] at hhit
    have hemit : (ppuTick g).ppu.sprite0Hit = (g.ppu.sprite0Hit ||
        spriteZeroHits (bgPixel g.ppu (g.ppu.dot - 1)) (spritePixel g.ppu (g.ppu.dot - 1)) (g.ppu.dot - 1)) := hhit
    obtain ⟨_, hs, hs', hd, _⟩ := he
    have hkept : ¬ (g.ppu.scanline = -1 ∧ g.ppu.dot = 1) := by omega
    have hleft : g.ppu.dot - 1 < 8 ↔ g.ppu.dot ≤ 8 := by omega
    have hfrom : 1 ≤ g.ppu.dot - 1 ↔ 2 ≤ g.ppu.dot := by omega
    have hto : g.ppu.dot - 1 ≤ 254 ↔ g.ppu.dot ≤ 255 := by omega
    rw [hemit, Bool.or_eq_true, spriteZeroHits_iff, Ppu.layerOn_iff, Ppu.layerOn_iff, hleft, hfrom, hto]
    constructor
    · rintro (h | ⟨⟨hbg, hbgEdge⟩, ⟨hspr, hsprEdge⟩, hback, hfront, hlo, hhi⟩)
      · exact .inl ⟨h, hkept⟩
      · exact .inr ⟨hs, hs', hlo, hhi, hbg, hspr, fun hl => ⟨hbgEdge hl, hsprEdge hl⟩, hback, hfront⟩
    · rintro (⟨h, _⟩ | ⟨_, _, hlo, hhi, hbg, hspr, hedges, hback, hfront⟩)
      · exact .inl h
      · exact .inr ⟨⟨hbg, fun hl => (hedges hl).1⟩, ⟨hspr, fun hl => (hedges hl).2⟩, hback, hfront, hlo, hhi⟩
  · rw [if_neg he] at hhit
    rw [show (ppuTick g).ppu.sprite0Hit = _ from hhit, hclear, or_iff_left]
    rintro ⟨hs, hs', hd, hd', hshow, _⟩
    exact he ⟨by rw [Ppu.rendering, hshow, Bool.true_or], hs, hs', by omega, by omega⟩

end Sys2Proof.Machine
end

section
/-! The family of 61_ppu.md, the background: the two moves of `v` in fields, the fetch addresses, and what the shifts,
the fetches and the reload leave in each register. -/

namespace Sys2Proof.Machine

/-! ### The moves of `v` -/

theorem coarseX_last_iff (v : BitVec 15) : v &&& 0x001F = 31 ↔ v.toNat % 32 = 31 := by
  rw [BitVec.toNat_eq, BitVec.toNat_and]
  exact Eq.congr_left (Nat.and_two_pow_sub_one_eq_mod v.toNat 5)

/-- Coarse X in fields: it wraps at 31 into a flip of bit 10 (R274). -/
theorem coarseXIncrement_fields (v : BitVec 15) :
    let n := v.toNat
    let h := (coarseXIncrement v).toNat
    h % 32 = (n % 32 + 1) % 32 ∧ (h / 1024 % 2 = if n % 32 = 31 then 1 - n / 1024 % 2 else n / 1024 % 2) ∧
      h / 32 % 32 = n / 32 % 32 ∧ h / 2048 = n / 2048 := by
  intro n h
  have hn : n < 32768 := v.isLt
  by_cases hwrap : v &&& 0x001F = 31
  · generalize hm : (v &&& 0x7FE0) ^^^ 0x0400 = m
    have hh : h = m.toNat := congrArg BitVec.toNat ((if_pos hwrap).trans hm)
    have hnot : (~~~v).toNat = 32767 - n := BitVec.toNat_not
    have hcoarseX := toNat_field_eq 0 0 5 (x := m) (y := 0#15) fun k hk => by
      subst hm; interval_cases k <;> simp
    have hcoarseY := toNat_field_eq 5 5 5 (x := m) (y := v) fun k hk => by
      subst hm; interval_cases k <;> simp
    have hflip := toNat_field_eq 10 10 1 (x := m) (y := ~~~v) fun k hk => by
      subst hm; interval_cases k; simp
    have htop := toNat_field_eq 11 11 4 (x := m) (y := v) fun k hk => by
      subst hm; interval_cases k <;> simp
    have hm15 := m.isLt
    rw [coarseX_last_iff] at hwrap
    rw [BitVec.toNat_zero] at hcoarseX
    rw [hh, if_pos hwrap]
    omega
  · have hh : h = (n + 1) % 32768 := (congrArg BitVec.toNat (if_neg hwrap)).trans (BitVec.toNat_add v 1)
    rw [coarseX_last_iff] at hwrap
    rw [if_neg hwrap]
    omega

theorem fineY_last_iff (v : BitVec 15) : v &&& 0x7000 = 0x7000 ↔ v.toNat / 4096 = 7 := by
  have hlow := toNat_field_eq 0 0 12 (x := v &&& 0x7000) (y := 0#15) fun k hk => by interval_cases k <;> simp
  have hhigh := toNat_field_eq 12 12 3 (x := v &&& 0x7000) (y := v) fun k hk => by interval_cases k <;> simp
  have hv := v.isLt
  have hm := (v &&& 0x7000).isLt
  rw [BitVec.toNat_eq]
  rw [BitVec.toNat_zero] at hlow
  have : (0x7000 : BitVec 15).toNat = 28672 := rfl
  omega

/-- Coarse Y as the number `y_increment` tests. -/
theorem coarseY_toNat (v : BitVec 15) : (((v &&& 0x0FFF) >>> 5) &&& 31).toNat = v.toNat / 32 % 32 := by
  have hfield := toNat_field_eq 0 5 5 (x := ((v &&& 0x0FFF) >>> 5) &&& 31) (y := v) fun k hk => by
    interval_cases k <;> simp
  have hhigh := toNat_field_eq 5 0 10 (x := ((v &&& 0x0FFF) >>> 5) &&& 31) (y := 0#15) fun k hk => by
    interval_cases k <;> simp
  have := (((v &&& 0x0FFF) >>> 5) &&& 31).isLt
  rw [BitVec.toNat_zero] at hhigh
  omega

/-- `v` with fine Y 0, coarse Y `c` and the other fields kept. -/
def withCoarseY (v : BitVec 15) (c : BitVec 5) : BitVec 15 := (v &&& 0x0C1F) ||| (c.setWidth 15 <<< 5)

theorem withCoarseY_fields (v : BitVec 15) (c : BitVec 5) :
    let m := (withCoarseY v c).toNat
    m % 32 = v.toNat % 32 ∧ m / 32 % 32 = c.toNat ∧ m / 1024 % 4 = v.toNat / 1024 % 4 ∧ m / 4096 = 0 := by
  have hcoarseX := toNat_field_eq 0 0 5 (x := withCoarseY v c) (y := v) fun k hk => by
    interval_cases k <;> simp [withCoarseY]
  have hcoarseY := toNat_field_eq 5 0 5 (x := withCoarseY v c) (y := c) fun k hk => by
    interval_cases k <;> simp [withCoarseY]
  have hnametable := toNat_field_eq 10 10 2 (x := withCoarseY v c) (y := v) fun k hk => by
    interval_cases k <;> simp [withCoarseY]
  have hfineY := toNat_field_eq 12 0 3 (x := withCoarseY v c) (y := 0#15) fun k hk => by
    interval_cases k <;> simp [withCoarseY]
  have hm := (withCoarseY v c).isLt
  have hc := c.isLt
  rw [BitVec.toNat_zero] at hfineY
  omega

theorem coarseY_wrapped (v : BitVec 15) : (v &&& 0x0FFF) &&& 0x7C1F = withCoarseY v 0 := by
  refine BitVec.eq_of_getLsbD_eq fun k hk => ?_
  interval_cases k <;> simp [withCoarseY]

theorem coarseY_wrapped_flipped (v : BitVec 15) :
    ((v &&& 0x0FFF) ^^^ 0x0800) &&& 0x7C1F = withCoarseY (v ^^^ 0x0800) 0 := by
  refine BitVec.eq_of_getLsbD_eq fun k hk => ?_
  interval_cases k <;> simp [withCoarseY]

theorem coarseY_moved (v : BitVec 15) (c : BitVec 5) :
    ((v &&& 0x0FFF) &&& 0x7C1F) ||| (c.setWidth 15 <<< 5) = withCoarseY v c := by
  refine BitVec.eq_of_getLsbD_eq fun k hk => ?_
  interval_cases k <;> simp [withCoarseY]

/-- What `y_increment` does, by fine Y and coarse Y (R275, D40). -/
theorem yIncrement_eq (v : BitVec 15) : yIncrement v =
    if v.toNat / 4096 = 7 then
      if v.toNat / 32 % 32 = 29 then withCoarseY (v ^^^ 0x0800) 0
      else if v.toNat / 32 % 32 = 31 then withCoarseY v 0
      else withCoarseY v (BitVec.ofNat 5 (v.toNat / 32 % 32 + 1))
    else v + 0x1000 := by
  by_cases hfine : v &&& 0x7000 = 0x7000
  · rw [yIncrement, if_neg (not_not_intro hfine), if_pos ((fineY_last_iff v).mp hfine)]
    have hcy := coarseY_toNat v
    dsimp only
    rw [coarseY_wrapped_flipped]
    generalize ((v &&& 0x0FFF) >>> 5) &&& 31 = cy at hcy ⊢
    have h29 : cy = 29 ↔ v.toNat / 32 % 32 = 29 := hcy ▸ BitVec.toNat_eq
    have h31 : cy = 31 ↔ v.toNat / 32 % 32 = 31 := hcy ▸ BitVec.toNat_eq
    have hnext : v.toNat / 32 % 32 ≠ 31 → cy + 1 = (BitVec.ofNat 5 (v.toNat / 32 % 32 + 1)).setWidth 15 := fun h => by
      refine BitVec.eq_of_toNat_eq ?_
      rw [BitVec.toNat_add, hcy, BitVec.toNat_setWidth, BitVec.toNat_ofNat]
      have : (1 : BitVec 15).toNat = 1 := rfl
      omega
    simp only [h29, h31]
    split_ifs with hc29 hc31
    · rfl
    · exact coarseY_wrapped v
    · rw [hnext hc31]
      exact coarseY_moved v _
  · rw [yIncrement, if_pos hfine, if_neg (hfine ∘ (fineY_last_iff v).mpr)]

/-- Fine Y in fields: it carries into coarse Y, which wraps at 29 into a flip of bit 11 and at 31 without one (R275). -/
theorem yIncrement_fields (v : BitVec 15) :
    let n := v.toNat
    let y := (yIncrement v).toNat
    y % 32 = n % 32 ∧ y / 1024 % 2 = n / 1024 % 2 ∧ y / 4096 = (n / 4096 + 1) % 8 ∧
      (y / 32 % 32 =
        if n / 4096 < 7 then n / 32 % 32
        else if n / 32 % 32 = 29 ∨ n / 32 % 32 = 31 then 0 else n / 32 % 32 + 1) ∧
      (y / 2048 % 2 = if n / 4096 = 7 ∧ n / 32 % 32 = 29 then 1 - n / 2048 % 2 else n / 2048 % 2) := by
  have hv := v.isLt
  have hzero : (0 : BitVec 5).toNat = 0 := rfl
  dsimp only
  by_cases hfine : v.toNat / 4096 = 7
  · rw [yIncrement_eq, if_pos hfine, if_neg (c := v.toNat / 4096 < 7) (by omega)]
    by_cases h29 : v.toNat / 32 % 32 = 29
    · have hflip := toNat_field_eq 11 11 1 (x := v ^^^ 0x0800) (y := ~~~v) fun k hk => by interval_cases k; simp
      have hlow := toNat_field_eq 0 0 11 (x := v ^^^ 0x0800) (y := v) fun k hk => by interval_cases k <;> simp
      have hnot : (~~~v).toNat = 32767 - v.toNat := BitVec.toNat_not
      have hfields := withCoarseY_fields (v ^^^ 0x0800) 0
      rw [if_pos h29, if_pos (.inl h29), if_pos ⟨hfine, h29⟩]
      omega
    · rw [if_neg h29, if_neg (c := v.toNat / 4096 = 7 ∧ v.toNat / 32 % 32 = 29) fun h => h29 h.2]
      by_cases h31 : v.toNat / 32 % 32 = 31
      · have hfields := withCoarseY_fields v 0
        rw [if_pos h31, if_pos (.inr h31)]
        omega
      · have hfields := withCoarseY_fields v (BitVec.ofNat 5 (v.toNat / 32 % 32 + 1))
        rw [BitVec.toNat_ofNat] at hfields
        rw [if_neg h31, if_neg (by omega)]
        omega
  · have hadd := BitVec.toNat_add v 0x1000
    have hrow : (0x1000 : BitVec 15).toNat = 4096 := rfl
    rw [yIncrement_eq, if_neg hfine, if_pos (by omega), if_neg fun h => hfine h.1]
    omega

/-! ### The fetch addresses -/

theorem vAddr_toNat (u : Ppu) : (vAddr u).toNat = u.v.toNat % 16384 := BitVec.toNat_setWidth 14 u.v

theorem ntFetchAddr_eq (u : Ppu) : ntFetchAddr u = BitVec.ofNat 14 (0x2000 + u.v.toNat % 4096) := by
  have hmod : u.v.toNat % 16384 % 4096 = u.v.toNat % 4096 := by omega
  rw [ntFetchAddr, fourScreen_address, vAddr_toNat, hmod]

/-- The address of the tile's byte in the table after the nametable, field by field (R273). -/
theorem atFetchAddr_eq (u : Ppu) : atFetchAddr u =
    BitVec.ofNat 14 (0x23C0 + u.v.toNat / 1024 % 4 * 1024 + u.v.toNat / 128 % 8 * 8 + u.v.toNat / 4 % 8) := by
  have hx : _ = u.v.toNat / 4 % 8 := toNat_field_eq 0 2 3 (x := atFetchAddr u) fun k hk => by
    interval_cases k <;> simp [atFetchAddr, vAddr]
  have hy : _ = u.v.toNat / 128 % 8 := toNat_field_eq 3 7 3 (x := atFetchAddr u) fun k hk => by
    interval_cases k <;> simp [atFetchAddr, vAddr]
  have htable : _ = 15 := toNat_field_eq 6 0 4 (x := atFetchAddr u) (y := 15#4) fun k hk => by
    interval_cases k <;> simp [atFetchAddr, vAddr]
  have hnametable : _ = u.v.toNat / 1024 % 4 := toNat_field_eq 10 10 2 (x := atFetchAddr u) fun k hk => by
    interval_cases k <;> simp [atFetchAddr, vAddr]
  have htop : _ = 2 := toNat_field_eq 12 0 2 (x := atFetchAddr u) (y := 2#2) fun k hk => by
    interval_cases k <;> simp [atFetchAddr, vAddr]
  have hlt := (atFetchAddr u).isLt
  rw [← hx, ← hy, ← hnametable]
  clear hx hy hnametable
  refine BitVec.eq_of_toNat_eq (Eq.trans ?_ (Nat.mod_eq_of_lt ?_).symm) <;> omega

theorem getElem_bitOf (n : Nat) (b : Bool) (i : Nat) (h : i < n + 1) : (bitOf (n + 1) b)[i] = (decide (i = 0) && b) :=
  getLsbD_bitOf n b i

/-- A pattern address in fields: the table, the tile, the low or high half, the row (R273, R281). -/
theorem patternAddr_eq (table half : Bool) (tile : Byte) (row : BitVec 3) :
    (bitOf 14 table <<< 12) ||| (tile.setWidth 14 <<< 4) ||| row.setWidth 14 ||| (bitOf 14 half <<< 3) =
      BitVec.ofNat 14 (table.toNat * 4096 + tile.toNat * 16 + row.toNat + half.toNat * 8) := by
  generalize ha : (bitOf 14 table <<< 12) ||| (tile.setWidth 14 <<< 4) ||| row.setWidth 14 ||| (bitOf 14 half <<< 3) = a
  have hrow := toNat_field_eq 0 0 3 (x := a) (y := row) fun k hk => by
    subst ha; interval_cases k <;> simp
  have hhalf := toNat_field_eq 3 0 1 (x := a) (y := bitOf 1 half) fun k hk => by
    subst ha; interval_cases k; simp [getElem_bitOf]
  have htile := toNat_field_eq 4 0 8 (x := a) (y := tile) fun k hk => by
    subst ha; interval_cases k <;> simp [getElem_bitOf]
  have htable := toNat_field_eq 12 0 2 (x := a) (y := bitOf 2 table) fun k hk => by
    subst ha; interval_cases k <;> simp [getElem_bitOf]
  have hbit1 : (bitOf 1 half).toNat = half.toNat := by cases half <;> rfl
  have hbit2 : (bitOf 2 table).toNat = table.toNat := by cases table <;> rfl
  have hlt := a.isLt
  refine BitVec.eq_of_toNat_eq ?_
  rw [BitVec.toNat_ofNat]
  omega

/-- The two bytes of a pattern row, by the bit that selects the half (R273, R281). -/
theorem patternAddr_halves {a : BitVec 14} {n : Nat}
    (h : ∀ half, a ||| (bitOf 14 half <<< 3) = BitVec.ofNat 14 (n + half.toNat * 8)) :
    a = BitVec.ofNat 14 n ∧ a ||| 8 = BitVec.ofNat 14 (n + 8) := by
  have hlow : bitOf 14 false <<< 3 = 0#14 := by decide
  have hhigh : bitOf 14 true <<< 3 = 8#14 := by decide
  exact ⟨by simpa [hlow] using h false, by simpa [hhigh] using h true⟩

/-- The tile's pattern row in the background's pattern table (R273). -/
def Ppu.tileAddr (u : Ppu) : Nat := (u.ctrl.getLsbD 4).toNat * 4096 + u.ntByte.toNat * 16 + u.v.toNat / 4096

theorem patFetchAddr_half (u : Ppu) (half : Bool) :
    patFetchAddr u ||| (bitOf 14 half <<< 3) = BitVec.ofNat 14 (u.tileAddr + half.toNat * 8) := by
  have hfine : (u.v >>> 12).toNat = u.v.toNat / 4096 := Nat.shiftRight_eq_div_pow u.v.toNat 12
  have hrow : ((u.v >>> 12).setWidth 3).setWidth 14 = (u.v >>> 12).setWidth 14 := by
    refine BitVec.eq_of_toNat_eq ?_
    have := u.v.isLt
    simp only [BitVec.toNat_setWidth, hfine]
    omega
  have hfields := patternAddr_eq (u.ctrl.getLsbD 4) half u.ntByte ((u.v >>> 12).setWidth 3)
  have hrowNat : ((u.v >>> 12).setWidth 3).toNat = u.v.toNat / 4096 := by
    have := u.v.isLt
    rw [BitVec.toNat_setWidth, hfine]
    omega
  rw [hrow, hrowNat] at hfields
  exact hfields

theorem patFetchAddr_eq (u : Ppu) : patFetchAddr u = BitVec.ofNat 14 u.tileAddr ∧
    patFetchAddr u ||| 8 = BitVec.ofNat 14 (u.tileAddr + 8) :=
  patternAddr_halves (patFetchAddr_half u)

/-- The address of the memory read at place `ph` of the 8-dot sequence (R273). -/
def Ppu.fetchAddr (u : Ppu) (ph : Nat) : Nat :=
  if ph = 1 then 0x2000 + u.v.toNat % 4096
  else if ph = 3 then 0x23C0 + u.v.toNat / 1024 % 4 * 1024 + u.v.toNat / 128 % 8 * 8 + u.v.toNat / 4 % 8
  else if ph = 5 then u.tileAddr
  else u.tileAddr + 8

theorem Ppu.fetchAddr_seven (u : Ppu) : u.fetchAddr 7 = u.tileAddr + 8 := by simp [Ppu.fetchAddr]

/-- By how much the byte read at `ph` 3 is shifted, in the fields of `v` (R273). -/
theorem atShift_eq (u : Ppu) : atShift u = u.v.toNat / 64 % 2 * 4 + u.v.toNat / 2 % 2 * 2 := by
  rw [atShift]
  generalize ha : ((u.v >>> 4) &&& 4) ||| (u.v &&& 2) = a
  have h0 := toNat_field_eq 0 0 1 (x := a) (y := 0#1) fun k hk => by subst ha; interval_cases k; simp
  have hx : _ = u.v.toNat / 2 % 2 := toNat_field_eq 1 1 1 (x := a) fun k hk => by subst ha; interval_cases k; simp
  have hy : _ = u.v.toNat / 64 % 2 := toNat_field_eq 2 6 1 (x := a) fun k hk => by subst ha; interval_cases k; simp
  have htop := toNat_field_eq 3 0 12 (x := a) (y := 0#12) fun k hk => by subst ha; interval_cases k <;> simp
  have hlt := a.isLt
  rw [BitVec.toNat_zero] at h0 htop
  rw [← hx, ← hy]
  omega

/-! ### Shifts, reload and fetches -/

theorem toNat_shiftLeft_one_pattern (r : BitVec 16) : (r <<< 1).toNat = r.toNat * 2 % 65536 := by
  rw [BitVec.toNat_shiftLeft, Nat.shiftLeft_eq]

/-- The low half replaced by the fetched byte (R278). -/
theorem reload_toNat (r : BitVec 16) (b : Byte) :
    ((r &&& 0xFF00) ||| zext16 b).toNat = r.toNat / 256 * 256 + b.toNat := by
  generalize ha : (r &&& 0xFF00) ||| zext16 b = a
  have hlow := toNat_field_eq 0 0 8 (x := a) (y := b) fun k hk => by
    subst ha; interval_cases k <;> simp [zext16]
  have hhigh := toNat_field_eq 8 8 8 (x := a) (y := r) fun k hk => by
    subst ha; interval_cases k <;> simp [zext16]
  have := a.isLt
  have := r.isLt
  have := b.isLt
  omega

/-- A palette-bit register shifts its latch in (R278). -/
theorem attrShift_toNat (r : Byte) (latch : Bool) :
    ((r <<< 1) ||| bitOf 8 latch).toNat = r.toNat * 2 % 256 + latch.toNat := by
  have hdisjoint : (r <<< 1) &&& bitOf 8 latch = 0 := by
    refine BitVec.eq_of_getLsbD_eq fun k hk => ?_
    interval_cases k <;> simp [getElem_bitOf]
  rw [toNat_or_of_disjoint hdisjoint, toNat_shiftLeft_one, toNat_bitOf]

/-- The dots that shift and fetch (R262). -/
abbrev Ppu.Fetching (u : Ppu) : Prop := (1 ≤ u.dot ∧ u.dot ≤ 256) ∨ (321 ≤ u.dot ∧ u.dot ≤ 336)

theorem dotFetch_idle {g : PpuSide} (h : ¬ g.ppu.Fetching) : dotFetch g = g := if_neg h

/-- The memory read at the unit's place of the 8-dot sequence. -/
def fetched (g : PpuSide) (ph : Nat) : Byte × PpuSide := ppuMemRead g (BitVec.ofNat 14 (g.ppu.fetchAddr ph))

/-- A fetching dot at place `ph` of the 8-dot sequence, register by register (R273, R274, R278, D40). -/
theorem bgFetchStep_shift (g : PpuSide) {ph : Nat} (hph : ph < 8) :
    bgFetchStep { g with ppu := bgShift g.ppu } ph =
      { ppu := { (if ph = 7 then bgReload { bgShift g.ppu with patHi := (fetched g ph).1 } else bgShift g.ppu) with
          ntByte := if ph = 1 then (fetched g ph).1 else g.ppu.ntByte
          atBits := if ph = 3 then ((fetched g ph).1 >>> atShift g.ppu).setWidth 2 else g.ppu.atBits
          patLo := if ph = 5 then (fetched g ph).1 else g.ppu.patLo
          patHi := if ph = 7 then (fetched g ph).1 else g.ppu.patHi
          v := if ph = 7 then coarseXIncrement g.ppu.v else g.ppu.v }
        cart := if ph % 2 = 1 then (fetched g ph).2.cart else g.cart } := by
  have hread : ∀ a, ppuMemRead { g with ppu := bgShift g.ppu } a = _ := fun a =>
    ppuMemRead_withPpu g (bgShift g.ppu) a rfl rfl
  have hnt : ntFetchAddr (bgShift g.ppu) = BitVec.ofNat 14 (g.ppu.fetchAddr 1) := ntFetchAddr_eq g.ppu
  have hat : atFetchAddr (bgShift g.ppu) = BitVec.ofNat 14 (g.ppu.fetchAddr 3) := atFetchAddr_eq g.ppu
  obtain ⟨htile, htile'⟩ := patFetchAddr_eq g.ppu
  have hlo : patFetchAddr (bgShift g.ppu) = BitVec.ofNat 14 (g.ppu.fetchAddr 5) := htile
  have hhi : BitVec.ofNat 14 (g.ppu.fetchAddr 5) ||| 8 = BitVec.ofNat 14 (g.ppu.fetchAddr 7) := by
    rw [← hlo, Ppu.fetchAddr_seven]
    exact htile'
  simp only [fetched, bgFetchStep, hnt, hat, hhi, hlo, hread]
  interval_cases ph <;> rfl

theorem dotFetch_of_fetching {g : PpuSide} (h : g.ppu.Fetching) :
    dotFetch g = bgFetchStep { g with ppu := bgShift g.ppu } ((g.ppu.dot - 1) % 8) := if_pos h

/-- The registers of the background pipeline apart from `v` (R17). -/
def Ppu.background (u : Ppu) :
    (BitVec 16 × BitVec 16 × Byte × Byte × Bool × Bool) × (Byte × BitVec 2 × Byte × Byte) :=
  ((u.bgPatLo, u.bgPatHi, u.bgAttrLo, u.bgAttrHi, u.atLatchLo, u.atLatchHi), (u.ntByte, u.atBits, u.patLo, u.patHi))

/-- What the memory reads of a dot leave, at its place `ph` (R273). -/
theorem dotFetch_reads (g : PpuSide) :
    let ph := (g.ppu.dot - 1) % 8
    let got := fetched g ph
    let f := (dotFetch g).ppu
    f.ntByte = (if g.ppu.Fetching ∧ ph = 1 then got.1 else g.ppu.ntByte) ∧
      f.atBits = (if g.ppu.Fetching ∧ ph = 3 then (got.1 >>> atShift g.ppu).setWidth 2 else g.ppu.atBits) ∧
      f.patLo = (if g.ppu.Fetching ∧ ph = 5 then got.1 else g.ppu.patLo) ∧
      f.patHi = (if g.ppu.Fetching ∧ ph = 7 then got.1 else g.ppu.patHi) ∧
      f.v = (if g.ppu.Fetching ∧ ph = 7 then coarseXIncrement g.ppu.v else g.ppu.v) ∧
      (dotFetch g).cart = (if g.ppu.Fetching ∧ ph % 2 = 1 then got.2.cart else g.cart) := by
  intro ph got f
  by_cases h : g.ppu.Fetching
  · have hstep := (dotFetch_of_fetching h).trans (bgFetchStep_shift g (Nat.mod_lt _ (by decide)))
    simp only [h, true_and, f, hstep, ph, got]
  · simp only [h, false_and, if_false, f, dotFetch_idle h, and_self]

/-- What the shift of a fetching dot leaves, and at `ph` 7 the reload (R278, D40). -/
theorem dotFetch_shifts {g : PpuSide} (h : g.ppu.Fetching) :
    let ph := (g.ppu.dot - 1) % 8
    let f := (dotFetch g).ppu
    let reloaded := fun (r : BitVec 16) (b : Byte) =>
      if ph = 7 then r.toNat * 2 % 65536 / 256 * 256 + b.toNat else r.toNat * 2 % 65536
    f.bgPatLo.toNat = reloaded g.ppu.bgPatLo g.ppu.patLo ∧ f.bgPatHi.toNat = reloaded g.ppu.bgPatHi f.patHi ∧
      f.bgAttrLo.toNat = g.ppu.bgAttrLo.toNat * 2 % 256 + g.ppu.atLatchLo.toNat ∧
      f.bgAttrHi.toNat = g.ppu.bgAttrHi.toNat * 2 % 256 + g.ppu.atLatchHi.toNat ∧
      f.atLatchLo = (if ph = 7 then g.ppu.atBits.getLsbD 0 else g.ppu.atLatchLo) ∧
      f.atLatchHi = (if ph = 7 then g.ppu.atBits.getLsbD 1 else g.ppu.atLatchHi) := by
  intro ph f reloaded
  have hstep := (dotFetch_of_fetching h).trans (bgFetchStep_shift g (Nat.mod_lt _ (by decide)))
  have hattr : ∀ (r : Byte) latch, ((r <<< 1) ||| bitOf 8 latch).toNat = _ := attrShift_toNat
  by_cases h7 : ph = 7
  · simp only [f, hstep, reloaded, ph] at h7 ⊢
    simp only [h7, if_true, bgReload, bgShift, reload_toNat, toNat_shiftLeft_one_pattern, hattr, and_self]
  · simp only [f, hstep, reloaded, ph] at h7 ⊢
    simp only [h7, if_false, bgShift, toNat_shiftLeft_one_pattern, hattr, and_self]

/-! ### The moves of `v` at the ends of a line -/

theorem copyHorizontal_bits (u : Ppu) (k : Nat) :
    (copyHorizontal u).v.getLsbD k = if k < 5 ∨ k = 10 then u.t.getLsbD k else u.v.getLsbD k := by
  by_cases hk : k < 15
  · interval_cases k <;> simp [copyHorizontal]
  · have h15 := Nat.le_of_not_lt hk
    rw [BitVec.getLsbD_of_ge _ _ h15, if_neg (by omega), BitVec.getLsbD_of_ge _ _ h15]

theorem copyVertical_bits (u : Ppu) (k : Nat) :
    (copyVertical u).v.getLsbD k = if k < 5 ∨ k = 10 then u.v.getLsbD k else u.t.getLsbD k := by
  by_cases hk : k < 15
  · interval_cases k <;> simp [copyVertical]
  · have h15 := Nat.le_of_not_lt hk
    rw [BitVec.getLsbD_of_ge _ _ h15, if_neg (by omega), BitVec.getLsbD_of_ge _ _ h15]

/-- Where bit `k` of `v` is copied from `t`: the horizontal bits at dot 257, the vertical ones at dots 280 to 304 of
the pre-render line (R276, R277). -/
abbrev Ppu.Copies (u : Ppu) (k : Nat) : Prop :=
  if k < 5 ∨ k = 10 then u.dot = 257 else u.scanline = -1 ∧ 280 ≤ u.dot ∧ u.dot ≤ 304

theorem spriteEvaluate_v (u : Ppu) : (spriteEvaluate u).v = u.v := by
  rw [spriteEvaluate]
  split_ifs <;> rfl

theorem dotScroll_v_bits (u : Ppu) (k : Nat) : (dotScroll u).v.getLsbD k =
    if u.Copies k then u.t.getLsbD k else (if u.dot = 256 then yIncrement u.v else u.v).getLsbD k := by
  by_cases h257 : u.dot = 257
  · have h256 : ¬ u.dot = 256 := by omega
    have hv : (dotScroll u).v = (copyHorizontal u).v := by
      simp only [dotScroll, if_neg h256, if_pos h257]
      rw [if_neg (by omega), spriteEvaluate_v]
    rw [hv, copyHorizontal_bits, if_neg h256]
    refine if_congr ?_ rfl rfl
    by_cases hk : k < 5 ∨ k = 10
    · simp only [Ppu.Copies, hk, h257, if_true]
    · simp only [Ppu.Copies, hk, if_false, false_iff]
      omega
  · by_cases hvert : u.scanline = -1 ∧ 280 ≤ u.dot ∧ u.dot ≤ 304
    · have h256 : ¬ u.dot = 256 := by omega
      have hv : dotScroll u = copyVertical u := by
        simp only [dotScroll, if_neg h256, if_neg h257, if_pos hvert]
      rw [hv, copyVertical_bits, if_neg h256, ← ite_not]
      refine if_congr ?_ rfl rfl
      by_cases hk : k < 5 ∨ k = 10
      · simp only [Ppu.Copies, hk, h257, if_true, not_true]
      · simp only [Ppu.Copies, hk, hvert, if_false, not_false_iff, and_self]
    · have hv : (dotScroll u).v = if u.dot = 256 then yIncrement u.v else u.v := by
        simp only [dotScroll, if_neg h257, if_neg hvert]
        split_ifs <;> rfl
      have hno : ¬ u.Copies k := by
        unfold Ppu.Copies
        split_ifs <;> assumption
      rw [hv, if_neg hno]

/-- A rendering dot's background registers are those its fetch leaves. -/
theorem ppuTick_background {g : PpuSide} (h : g.ppu.Renders) :
    (ppuTick g).ppu.background = (dotFetch g).ppu.background := by
  rw [ppuTick_stages h]
  simp only [Ppu.background, Ppu.withPlace, Ppu.withUnits, Ppu.withScroll, afterFetch, Ppu.withPixel, Ppu.withFlags]

/-- The bits of `v` after a rendering dot (R274 to R277). -/
theorem ppuTick_v_bits {g : PpuSide} (h : g.ppu.Renders) (k : Nat) : (ppuTick g).ppu.v.getLsbD k =
    if g.ppu.Copies k then g.ppu.t.getLsbD k
    else (if g.ppu.dot = 256 then yIncrement (dotFetch g).ppu.v else (dotFetch g).ppu.v).getLsbD k := by
  have hv : (ppuTick g).ppu.v = (dotScroll (afterFetch g).ppu).v := (congrArg Ppu.v (ppuTick_stages h) :)
  rw [hv, dotScroll_v_bits, afterFetch_frame]
  rfl

/-- The dots that load an output unit (R262, R281). -/
abbrev Ppu.Loads (u : Ppu) : Prop := 264 ≤ u.dot ∧ u.dot ≤ 320 ∧ u.dot % 8 = 0

theorem dotScroll_afterFetch_dot (g : PpuSide) : (dotScroll (afterFetch g).ppu).dot = g.ppu.dot := by
  rw [dotScroll_frame, afterFetch_frame]
  rfl

/-- A rendering dot that loads no output unit reads the cartridge by its background fetch alone. -/
theorem ppuTick_cart {g : PpuSide} (h : g.ppu.Renders) (hl : ¬ g.ppu.Loads) :
    (ppuTick g).cart = (dotFetch g).cart := by
  rw [ppuTick_of_renders h, afterSprite, dotSprite, if_neg (by rwa [dotScroll_afterFetch_dot])]
  rfl

/-- Settles O52: the two moves in fields, and each register of a rendering dot as its stage leaves it. -/
theorem backgroundPipelineOfARenderingDot : Obligations.BackgroundPipelineOfARenderingDot := by
  unfold Obligations.BackgroundPipelineOfARenderingDot
  refine ⟨fun v => ?_, fun g hr hlo hhi => ?_⟩
  · obtain ⟨hx, hflip, hkept, htop⟩ := coarseXIncrement_fields v
    obtain ⟨yx, ynt, yfine, ycoarse, yflip⟩ := yIncrement_fields v
    exact ⟨hx, hflip, hkept, htop, yx, ynt, yfine, ycoarse, yflip⟩
  · intro u q fetching ph n tile addr got reloaded v1 v2 fromT
    have h : g.ppu.Renders := ⟨hr, hlo, hhi⟩
    have hregs := ppuTick_background h
    simp only [Ppu.background, Prod.mk.injEq] at hregs
    obtain ⟨⟨hpatLo, hpatHi, hattrLo, hattrHi, hlatchLo, hlatchHi⟩, hnt, hat, hlow, hhigh⟩ := hregs
    obtain ⟨rnt, rat, rlow, rhigh, rv, rcart⟩ := dotFetch_reads g
    have hvAfter : v1 = (dotFetch g).ppu.v := rv.symm
    refine ⟨hnt.trans rnt, ?_, hlow.trans rlow, hhigh.trans rhigh, fun hf => ?_, fun hf => ?_, fun hf => ?_,
      fun hf => ?_, fun k => ?_, ppuTick_t g, ppuTick_x g, ppuTick_w g⟩
    · rw [hat, rat, apply_ite BitVec.toNat, BitVec.toNat_setWidth, BitVec.toNat_ushiftRight, atShift_eq,
        Nat.shiftRight_eq_div_pow]
      rfl
    · have hload : ¬ g.ppu.Loads := by
        change g.ppu.Fetching at hf
        omega
      rw [ppuTick_cart h hload, rcart]
      exact if_congr (and_iff_right hf) rfl rfl
    · refine or_iff_not_imp_left.mpr fun hload => ?_
      rw [ppuTick_cart h hload, dotFetch_idle hf]
    · have hshift := dotFetch_shifts hf
      simp only [← hpatLo, ← hpatHi, ← hattrLo, ← hattrHi, ← hlatchLo, ← hlatchHi, ← hhigh] at hshift
      exact hshift
    · rw [dotFetch_idle hf] at hpatLo hpatHi hattrLo hattrHi hlatchLo hlatchHi
      exact ⟨hpatLo, hpatHi, hattrLo, hattrHi, hlatchLo, hlatchHi⟩
    · have hbits := ppuTick_v_bits h k
      rw [← hvAfter] at hbits
      exact hbits

end Sys2Proof.Machine
end

section
/-! The family of 61_ppu.md, the sprites: which sprites evaluation selects, the pattern row a slot reads, the load of an
output unit, and the step of every unit at a visible dot. -/

namespace Sys2Proof.Machine

/-! ### Evaluation -/

/-- The sprites of OAM that cover line `s`, in OAM order (R280). -/
theorem mem_spritesOnLine {u : Ppu} {s : Int} {e : SecEntry} : e ∈ spritesOnLine u s ↔
    ∃ n, n < 64 ∧ e = oamEntry u.oam n ∧ coversLine s (spriteHeight u) (oamEntry u.oam n) = true := by
  simp only [spritesOnLine, List.mem_filter, List.mem_map, List.mem_range]
  constructor
  · rintro ⟨⟨n, hn, rfl⟩, hc⟩
    exact ⟨n, hn, rfl, hc⟩
  · rintro ⟨n, hn, rfl, hc⟩
    exact ⟨⟨n, hn, rfl⟩, hc⟩

theorem oamEntry_id {n : Nat} (m : Memory) (h : n < 64) : (oamEntry m n).id.toNat = n :=
  Nat.mod_eq_of_lt h

theorem spritesOnLine_pairwise (u : Ppu) (s : Int) :
    (spritesOnLine u s).Pairwise fun e e' => e.id.toNat < e'.id.toNat := by
  refine List.Pairwise.filter _ (List.pairwise_map.mpr ?_)
  refine List.pairwise_lt_range.imp_of_mem fun ha hb hab => ?_
  rwa [oamEntry_id _ (List.mem_range.mp ha), oamEntry_id _ (List.mem_range.mp hb)]

/-- The entries of a rising list that its first eight leave out come after all of those. -/
theorem lt_of_mem_take_of_mem_drop {es : List SecEntry} (h : es.Pairwise fun e e' => e.id.toNat < e'.id.toNat) {k : Nat}
    {e e' : SecEntry} (he : e ∈ es.take k) (he' : e' ∈ es.drop k) : e.id.toNat < e'.id.toNat := by
  rw [← List.take_append_drop k es] at h
  exact (List.pairwise_append.mp h).2.2 e he e' he'

/-- A covering sprite that is not selected: eight are, all before it (R280, D41). -/
theorem spriteEvaluate_left_out {u : Ppu} {s : Int} {n : Nat} (hn : n < 64)
    (hc : coversLine s (spriteHeight u) (oamEntry u.oam n) = true)
    (hout : ∀ e ∈ (spritesOnLine u s).take 8, e.id.toNat ≠ n) :
    8 < (spritesOnLine u s).length ∧ ∀ e ∈ (spritesOnLine u s).take 8, e.id.toNat < n := by
  have hmem : oamEntry u.oam n ∈ spritesOnLine u s := mem_spritesOnLine.mpr ⟨n, hn, rfl, hc⟩
  have hdrop : oamEntry u.oam n ∈ (spritesOnLine u s).drop 8 := by
    rw [← List.take_append_drop 8 (spritesOnLine u s), List.mem_append] at hmem
    exact hmem.resolve_left fun h => hout _ h (oamEntry_id _ hn)
  refine ⟨?_, fun e he => ?_⟩
  · have := List.length_pos_of_mem hdrop
    rw [List.length_drop] at this
    omega
  · have := lt_of_mem_take_of_mem_drop (spritesOnLine_pairwise u s) he hdrop
    rwa [oamEntry_id _ hn] at this

/-- More than eight covering sprites: a ninth is left out (R280). -/
theorem exists_left_out {u : Ppu} {s : Int} (h : 8 < (spritesOnLine u s).length) :
    ∃ n, n < 64 ∧ coversLine s (spriteHeight u) (oamEntry u.oam n) = true ∧
      ∀ e ∈ (spritesOnLine u s).take 8, e.id.toNat ≠ n := by
  have hdrop : (spritesOnLine u s)[8] ∈ (spritesOnLine u s).drop 8 := by
    rw [List.drop_eq_getElem_cons h]
    exact List.mem_cons_self
  obtain ⟨n, hn, heq, hc⟩ := mem_spritesOnLine.mp (List.mem_of_mem_drop hdrop)
  refine ⟨n, hn, hc, fun e he => ?_⟩
  have := lt_of_mem_take_of_mem_drop (spritesOnLine_pairwise u s) he hdrop
  rw [heq, oamEntry_id _ hn] at this
  exact this.ne

theorem coversLine_oamEntry (u : Ppu) (n : Nat) :
    coversLine u.scanline (spriteHeight u) (oamEntry u.oam n) = true ↔
      (u.oam.read (4 * n)).toNat ≤ u.scanline ∧
        u.scanline < (u.oam.read (4 * n)).toNat + if u.ctrl.getLsbD 5 then (16 : Int) else 8 := by
  have hheight : (spriteHeight u : Int) = if u.ctrl.getLsbD 5 then (16 : Int) else 8 := by
    rw [spriteHeight]
    split_ifs <;> rfl
  rw [coversLine, Bool.and_eq_true, decide_eq_true_eq, decide_eq_true_eq, hheight]
  rfl

/-- What evaluation leaves (R280, D41). -/
theorem spriteEvaluate_spec (u : Ppu) :
    let h : Int := if u.ctrl.getLsbD 5 then 16 else 8
    let covers := fun n : Nat =>
      (u.oam.read (4 * n)).toNat ≤ u.scanline ∧ u.scanline < (u.oam.read (4 * n)).toNat + h
    let q := spriteEvaluate u
    0 ≤ u.scanline →
      (∀ e ∈ q.sec, covers e.id.toNat ∧ e.y = u.oam.read (4 * e.id.toNat) ∧
        e.tile = u.oam.read (4 * e.id.toNat + 1) ∧ e.attr = u.oam.read (4 * e.id.toNat + 2) ∧
        e.x = u.oam.read (4 * e.id.toNat + 3)) ∧
      q.sec.Pairwise (fun e e' => e.id.toNat < e'.id.toNat) ∧ q.sec.length ≤ 8 ∧
      (∀ n, n < 64 → covers n → (∀ e ∈ q.sec, e.id.toNat ≠ n) →
        q.sec.length = 8 ∧ q.spriteOverflow = true ∧ ∀ e ∈ q.sec, e.id.toNat < n) ∧
      (u.spriteOverflow = true → q.spriteOverflow = true) ∧
      (q.spriteOverflow = true → u.spriteOverflow = true ∨
        ∃ n, n < 64 ∧ covers n ∧ ∀ e ∈ q.sec, e.id.toNat ≠ n) := by
  intro h covers q hline
  have hcovers : ∀ n, coversLine u.scanline (spriteHeight u) (oamEntry u.oam n) = true ↔ covers n :=
    coversLine_oamEntry u
  have hq : q = { u with
      sec := (spritesOnLine u u.scanline).take 8
      spriteOverflow := u.spriteOverflow || decide (8 < (spritesOnLine u u.scanline).length) } :=
    if_neg (by omega)
  have hsec : q.sec = (spritesOnLine u u.scanline).take 8 := congrArg Ppu.sec hq
  have hoverflow : q.spriteOverflow = true ↔ u.spriteOverflow = true ∨ 8 < (spritesOnLine u u.scanline).length := by
    rw [hq, Bool.or_eq_true, decide_eq_true_eq]
  rw [hsec]
  refine ⟨fun e he => ?_, (spritesOnLine_pairwise u _).sublist (List.take_sublist 8 _), List.length_take_le 8 _,
    fun n hn hc hout => ?_, fun ho => hoverflow.mpr (.inl ho), fun ho => ?_⟩
  · obtain ⟨n, hn, rfl, hc⟩ := mem_spritesOnLine.mp (List.mem_of_mem_take he)
    rw [oamEntry_id _ hn]
    exact ⟨(hcovers n).mp hc, rfl, rfl, rfl, rfl⟩
  · obtain ⟨hlen, hbefore⟩ := spriteEvaluate_left_out hn ((hcovers n).mpr hc) hout
    exact ⟨List.length_take_of_le hlen.le, hoverflow.mpr (.inr hlen), hbefore⟩
  · refine (hoverflow.mp ho).imp_right fun hlen => ?_
    obtain ⟨n, hn, hc, hout⟩ := exists_left_out hlen
    exact ⟨n, hn, (hcovers n).mp hc, hout⟩

/-! ### The pattern row of a slot -/

/-- The row of a slot's pattern, 0 at the top of the tile, from the lines below the sprite's top (R281, log 29). -/
def Ppu.slotRow (u : Ppu) (e : SecEntry) : Nat :=
  let below := ((u.scanline - e.y.toNat) % (spriteHeight u : Int)).toNat
  if e.attr.getLsbD 7 then spriteHeight u - 1 - below else below

theorem spriteHeight_cases (u : Ppu) : (u.ctrl.getLsbD 5 = true ∧ spriteHeight u = 16) ∨
    (u.ctrl.getLsbD 5 = false ∧ spriteHeight u = 8) := by
  rw [spriteHeight]
  cases u.ctrl.getLsbD 5
  · exact .inr ⟨rfl, rfl⟩
  · exact .inl ⟨rfl, rfl⟩

/-- The row of the spec's bit operations is the row in integers. -/
theorem spriteRow_toNat (u : Ppu) (e : SecEntry) : (spriteRow u e).toNat = u.slotRow e := by
  have hbyte : (BitVec.ofInt 8 (u.scanline - e.y.toNat)).toNat = ((u.scanline - e.y.toNat) % 256).toNat :=
    BitVec.toNat_ofInt _
  generalize hz : u.scanline - (e.y.toNat : Int) = z at hbyte
  have h16 : (BitVec.ofInt 8 z &&& 15).toNat = (z % 16).toNat := by
    rw [BitVec.toNat_and, hbyte]
    exact (Nat.and_two_pow_sub_one_eq_mod _ 4).trans (by omega)
  have h8 : (BitVec.ofInt 8 z &&& 7).toNat = (z % 8).toNat := by
    rw [BitVec.toNat_and, hbyte]
    exact (Nat.and_two_pow_sub_one_eq_mod _ 3).trans (by omega)
  rcases spriteHeight_cases u with ⟨hc, hh⟩ | ⟨hc, hh⟩
  · simp only [spriteRow, Ppu.slotRow, hz, hc, hh, if_true]
    split_ifs
    · have := h16
      bv_omega
    · exact h16
  · simp only [spriteRow, Ppu.slotRow, hz, hc, hh, Bool.false_eq_true, if_false]
    split_ifs
    · have := h8
      bv_omega
    · exact h8

theorem Ppu.slotRow_lt (u : Ppu) (e : SecEntry) : u.slotRow e < spriteHeight u := by
  rcases spriteHeight_cases u with ⟨_, hh⟩ | ⟨_, hh⟩ <;> simp only [Ppu.slotRow, hh] <;> split_ifs <;> omega

/-- The address of the low pattern byte of a slot (R281). -/
def Ppu.slotAddr (u : Ppu) (e : SecEntry) : Nat :=
  if spriteHeight u = 8 then (u.ctrl.getLsbD 3).toNat * 4096 + e.tile.toNat * 16 + u.slotRow e
  else e.tile.toNat % 2 * 4096 + (e.tile.toNat / 2 * 2 + u.slotRow e / 8) * 16 + u.slotRow e % 8

/-- The tile of an 8x16 sprite's row: the even tile, or the next for the lower half (R281). -/
theorem tileBelow_toNat (tile : Byte) {row : Byte} (h : row.toNat < 16) :
    ((tile &&& 0xFE) ||| (row >>> 3)).toNat = tile.toNat / 2 * 2 + row.toNat / 8 := by
  obtain ⟨r, rfl⟩ : ∃ r : BitVec 4, row = r.setWidth 8 :=
    ⟨row.setWidth 4, BitVec.eq_of_toNat_eq (by simp only [BitVec.toNat_setWidth]; omega)⟩
  generalize ha : (tile &&& 0xFE) ||| (r.setWidth 8 >>> 3) = a
  have hlow := toNat_field_eq 0 3 1 (x := a) (y := r) fun k hk => by
    subst ha; interval_cases k; simp
  have hhigh := toNat_field_eq 1 1 7 (x := a) (y := tile) fun k hk => by
    subst ha; interval_cases k <;> simp
  have hr : (r.setWidth 8).toNat = r.toNat := BitVec.toNat_setWidth_of_le (by decide)
  have := a.isLt
  have := tile.isLt
  omega

theorem spriteFetchAddr_half (u : Ppu) (e : SecEntry) (half : Bool) :
    spriteFetchAddr u e ||| (bitOf 14 half <<< 3) = BitVec.ofNat 14 (u.slotAddr e + half.toNat * 8) := by
  have hrow := spriteRow_toNat u e
  have hlt := u.slotRow_lt e
  have hlow : ((spriteRow u e).setWidth 3).toNat = u.slotRow e % 8 := by rw [BitVec.toNat_setWidth, hrow]
  rcases spriteHeight_cases u with ⟨hc, hh⟩ | ⟨hc, hh⟩
  · have hrow3 : (spriteRow u e &&& 7).setWidth 14 = ((spriteRow u e).setWidth 3).setWidth 14 := by
      refine BitVec.eq_of_getLsbD_eq fun k hk => ?_
      interval_cases k <;> simp
    have htile : ((e.tile &&& 0xFE) ||| (spriteRow u e >>> 3)).toNat = e.tile.toNat / 2 * 2 + u.slotRow e / 8 := by
      rw [tileBelow_toNat _ (by omega), hrow]
    have hbank : (e.tile.getLsbD 0).toNat = e.tile.toNat % 2 := by
      have := Nat.toNat_testBit e.tile.toNat 0
      rwa [pow_zero, Nat.div_one] at this
    simp only [spriteFetchAddr, hc, if_true, hrow3, patternAddr_eq, htile, hbank, hlow, Ppu.slotAddr, hh]
    rfl
  · have hrow3 : (spriteRow u e).setWidth 14 = ((spriteRow u e).setWidth 3).setWidth 14 := by
      refine BitVec.eq_of_toNat_eq ?_
      simp only [BitVec.toNat_setWidth, hrow]
      omega
    simp only [spriteFetchAddr, hc, Bool.false_eq_true, if_false, hrow3, patternAddr_eq, hlow, Ppu.slotAddr, hh,
      if_true]
    rw [Nat.mod_eq_of_lt (hh ▸ hlt)]

theorem spriteFetchAddr_eq (u : Ppu) (e : SecEntry) : spriteFetchAddr u e = BitVec.ofNat 14 (u.slotAddr e) ∧
    spriteFetchAddr u e ||| 8 = BitVec.ofNat 14 (u.slotAddr e + 8) :=
  patternAddr_halves (spriteFetchAddr_half u e)

/-- Flip-h reverses the bit order (R281). -/
theorem flipH_bits (e : SecEntry) (b : Byte) {k : Nat} (hk : k < 8) :
    (flipH e b).getLsbD k = b.getLsbD (if e.attr.getLsbD 6 then 7 - k else k) := by
  rw [flipH]
  split_ifs
  · rw [rev8, BitVec.getLsbD_reverse, BitVec.getMsbD_eq_getLsbD]
    simp [hk]
  · rfl

/-! ### The output units -/

/-- A unit after a visible dot: its counter runs down, or its pattern shifts (R282). -/
theorem SprUnit.step_spec (un : SprUnit) :
    un.step = { un with lo := un.step.lo, hi := un.step.hi, xcnt := un.step.xcnt } ∧
      un.step.xcnt.toNat = (if un.valid then un.xcnt.toNat - 1 else un.xcnt.toNat) ∧
      un.step.lo.toNat = (if un.valid ∧ un.xcnt = 0 then un.lo.toNat * 2 % 256 else un.lo.toNat) ∧
      un.step.hi.toNat = (if un.valid ∧ un.xcnt = 0 then un.hi.toNat * 2 % 256 else un.hi.toNat) := by
  by_cases hv : un.valid = true
  · by_cases hx : un.xcnt = 0
    · have hstep : un.step = { un with lo := un.lo <<< 1, hi := un.hi <<< 1 } := by
        rw [SprUnit.step, if_pos hv, if_pos hx]
      have hcount : un.xcnt.toNat = un.xcnt.toNat - 1 := by rw [hx]; rfl
      rw [hstep, if_pos hv, if_pos ⟨hv, hx⟩, if_pos ⟨hv, hx⟩]
      exact ⟨rfl, hcount, toNat_shiftLeft_one un.lo, toNat_shiftLeft_one un.hi⟩
    · have hstep : un.step = { un with xcnt := un.xcnt - 1 } := by rw [SprUnit.step, if_pos hv, if_neg hx]
      have hcount : (un.xcnt - 1).toNat = un.xcnt.toNat - 1 := by
        have hpos : un.xcnt.toNat ≠ 0 := fun h => hx (BitVec.eq_of_toNat_eq h)
        bv_omega
      rw [hstep, if_pos hv, if_neg fun h => hx h.2, if_neg fun h => hx h.2]
      exact ⟨rfl, hcount, rfl, rfl⟩
  · have hstep : un.step = un := by rw [SprUnit.step, if_neg hv]
    rw [hstep, if_neg hv, if_neg fun h => hv h.1, if_neg fun h => hv h.1]
    exact ⟨rfl, rfl, rfl, rfl⟩

theorem ppuTick_spr_stage {g : PpuSide} (h : g.ppu.Renders) : (ppuTick g).ppu.spr = (afterSprite g).ppu.spr :=
  (congrArg Ppu.spr (ppuTick_stages h) :)

/-- Apart from the loads, the units move at the visible dots alone (R282). -/
theorem ppuTick_spr {g : PpuSide} (h : g.ppu.Renders) (hl : ¬ g.ppu.Loads) :
    (ppuTick g).ppu.spr = if g.ppu.Emits then g.ppu.spr.map SprUnit.step else g.ppu.spr := by
  have hkept : (afterSprite g).ppu.spr = (afterPixel g).spr := by
    rw [afterSprite, dotSprite, if_neg (by rwa [dotScroll_afterFetch_dot]), dotScroll_frame]
    rfl
  rw [ppuTick_spr_stage h, hkept]
  by_cases he : g.ppu.Emits
  · rw [if_pos he, afterPixel_of_emits he]
    rfl
  · rw [if_neg he, afterPixel_of_not_emits h he, timedEvents_frame]
    rfl

/-- The side as a loading dot's sprite fetch finds it: only `v` may have moved. -/
theorem afterSprite_of_loads {g : PpuSide} (h : g.ppu.Renders) (hl : g.ppu.Loads) :
    afterSprite g = spriteFetch { g with ppu := { g.ppu with v := (dotScroll g.ppu).v } } ((g.ppu.dot - 264) / 8) := by
  have ⟨hlo, hhi, _⟩ := hl
  have hpixel : afterPixel g = g.ppu := by
    rw [afterPixel_of_not_emits h fun ⟨_, _, _, _, hd⟩ => by omega, timedEvents_none (.inr (by omega))]
  have hfetch : afterFetch g = g := by
    rw [afterFetch, dotFetch_idle (by unfold Ppu.Fetching; omega), hpixel]
    rfl
  have hscroll : dotScroll g.ppu = { g.ppu with v := (dotScroll g.ppu).v } := by
    have heval := dotScroll_evaluation g.ppu
    rw [if_neg (by omega), Prod.mk.injEq] at heval
    obtain ⟨hsec, hoverflow⟩ := heval
    conv_lhs => rw [dotScroll_frame, Ppu.withScroll, hsec, hoverflow]
  rw [afterSprite, hfetch, hscroll, dotSprite, if_pos hl]

/-- The move of `v` does not matter to a sprite fetch. -/
theorem spriteFetch_withV (g : PpuSide) (v : BitVec 15) (i : Nat) :
    spriteFetch { g with ppu := { g.ppu with v := v } } i =
      { spriteFetch g i with ppu := { (spriteFetch g i).ppu with v := v } } := by
  have hread : ∀ (k : PpuSide) a, k.ppu = g.ppu → ppuMemRead { k with ppu := { g.ppu with v := v } } a = _ :=
    fun k a hk => ppuMemRead_withPpu k { g.ppu with v := v } a (by rw [hk]) (by rw [hk])
  have haddr : ∀ e, spriteFetchAddr { g.ppu with v := v } e = spriteFetchAddr g.ppu e := fun e => rfl
  unfold spriteFetch
  dsimp only
  split
  · rfl
  · simp only [haddr, hread g _ rfl, hread _ _ (ppuMemRead_ppu g _), ppuMemRead_ppu]

/-- A loading dot's units and cartridge are those of its sprite fetch (R281, D42). -/
theorem ppuTick_of_loads {g : PpuSide} (h : g.ppu.Renders) (hl : g.ppu.Loads) :
    (ppuTick g).ppu.spr = (spriteFetch g ((g.ppu.dot - 264) / 8)).ppu.spr ∧
      (ppuTick g).cart = (spriteFetch g ((g.ppu.dot - 264) / 8)).cart := by
  have hside := (afterSprite_of_loads h hl).trans (spriteFetch_withV g _ _)
  have hcart : (ppuTick g).cart = (afterSprite g).cart := (congrArg PpuSide.cart (ppuTick_of_renders h) :)
  rw [ppuTick_spr_stage h, hcart, hside]
  exact ⟨rfl, rfl⟩

/-- The unit a slot loads (R281). -/
def loadedUnit (g : PpuSide) (e : SecEntry) : SprUnit :=
  let lo := ppuMemRead g (BitVec.ofNat 14 (g.ppu.slotAddr e))
  let hi := ppuMemRead lo.2 (BitVec.ofNat 14 (g.ppu.slotAddr e + 8))
  { lo := flipH e lo.1, hi := flipH e hi.1, attr := e.attr, xcnt := e.x, id := e.id, valid := true }

theorem spriteFetch_empty {g : PpuSide} {i : Nat} (h : g.ppu.sec[i]? = none) : spriteFetch g i =
    { g with ppu := { g.ppu with spr := g.ppu.spr.modify i fun un => { un with valid := false } } } := by
  rw [spriteFetch, h]

theorem spriteFetch_slot {g : PpuSide} {i : Nat} {e : SecEntry} (h : g.ppu.sec[i]? = some e) : spriteFetch g i =
    let lo := ppuMemRead g (BitVec.ofNat 14 (g.ppu.slotAddr e))
    { (ppuMemRead lo.2 (BitVec.ofNat 14 (g.ppu.slotAddr e + 8))).2 with
      ppu := { g.ppu with spr := g.ppu.spr.set i (loadedUnit g e) } } := by
  obtain ⟨hlo, hhi⟩ := spriteFetchAddr_eq g.ppu e
  rw [spriteFetch, h]
  dsimp only
  rw [hhi, hlo]
  simp only [ppuMemRead_ppu, loadedUnit]

/-- A load leaves the other units alone. -/
theorem spriteFetch_spr_other (g : PpuSide) {i j : Nat} (h : j ≠ i) :
    (spriteFetch g j).ppu.spr[i]? = g.ppu.spr[i]? := by
  cases hs : g.ppu.sec[j]? with
  | none =>
    rw [spriteFetch_empty hs]
    exact List.getElem?_modify_ne _ _ h
  | some e =>
    rw [spriteFetch_slot hs]
    exact List.getElem?_set_ne h

/-- Settles O53: evaluation is a filter of OAM in order; a unit changes by its load or by its step alone. -/
theorem spriteEvaluationFetchAndUnits : Obligations.SpriteEvaluationFetchAndUnits := by
  unfold Obligations.SpriteEvaluationFetchAndUnits
  refine ⟨fun u => ⟨?_, fun hs => ?_, spriteEvaluate_spec u⟩, fun g hr hlo hhi hlen => ?_⟩
  · unfold spriteEvaluate
    split_ifs <;> rfl
  · unfold spriteEvaluate
    rw [if_pos hs]
    exact ⟨rfl, rfl⟩
  intro u q loads
  have h : g.ppu.Renders := ⟨hr, hlo, hhi⟩
  have heval := ppuTick_evaluation h
  have hloads : ∀ i, i < 8 → loads i → g.ppu.Loads ∧ (g.ppu.dot - 264) / 8 = i := by
    intro i hi hl
    change g.ppu.dot = 264 + 8 * i at hl
    omega
  refine ⟨(congrArg Prod.fst heval).trans (apply_ite Prod.fst _ _ _), fun hd => ?_, fun hd hclear => ?_,
    fun i un hi hun => ⟨fun hv => ?_, fun hv hl => ?_, fun hl hs => ?_⟩, fun i e hi hl he => ?_⟩
  · rw [if_pos hd] at heval
    exact congrArg Prod.snd heval
  · have hkept : (timedEvents g.ppu).spriteOverflow = g.ppu.spriteOverflow := by
      rw [timedEvents_eq, decide_eq_false hclear, Bool.not_false, Bool.and_true, Bool.and_true]
    rw [if_neg hd] at heval
    exact (congrArg Prod.snd heval).trans hkept
  · obtain ⟨hs, hd, hd'⟩ := hv
    have hquiet : ¬ g.ppu.Loads := fun ⟨hd'', _⟩ => absurd (hd''.trans hd') (by decide)
    refine ⟨un.step, ?_, un.step_spec⟩
    rw [ppuTick_spr h hquiet, if_pos ⟨hr, hs, hhi, hd, hd'⟩, List.getElem?_map, hun]
    rfl
  · by_cases hL : g.ppu.Loads
    · have hother : (g.ppu.dot - 264) / 8 ≠ i := fun hi' => hl (by
        change g.ppu.dot = 264 + 8 * i
        omega)
      rw [(ppuTick_of_loads h hL).1, spriteFetch_spr_other g hother]
      exact hun
    · rw [ppuTick_spr h hL, if_neg fun ⟨_, hs, _, hd, hd'⟩ => hv ⟨hs, hd, hd'⟩]
      exact hun
  · obtain ⟨hL, hslot⟩ := hloads i hi hl
    obtain ⟨hspr, hcart⟩ := ppuTick_of_loads h hL
    rw [hspr, hcart, hslot, spriteFetch_empty hs]
    refine ⟨(List.getElem?_modify_eq _ _ _).trans ?_, rfl⟩
    rw [hun]
    rfl
  · obtain ⟨hL, hslot⟩ := hloads i hi hl
    obtain ⟨hspr, hcart⟩ := ppuTick_of_loads h hL
    intro height below row addr lo hi
    refine ⟨loadedUnit g e, ?_, ?_, rfl, rfl, rfl, rfl, fun k hk => ⟨flipH_bits e _ hk, flipH_bits e _ hk⟩⟩
    · rw [hspr, hslot, spriteFetch_slot he]
      exact List.getElem?_set_self (by omega)
    · rw [hcart, hslot, spriteFetch_slot he]
      rfl

end Sys2Proof.Machine
end

section
/-! The family of 63_controllers_and_host.md, the host's view: the audio ring, its indices, the consumer and the log are
carried along by every operation and read by none but the ring's own. -/

namespace Sys2Proof.Machine

/-! ### The host's view of the audio unit -/

/-- `u` with the ring, its indices and the consumer of `d`. -/
def Apu.withRing (u d : Apu) : Apu :=
  { u with ring := d.ring, widx := d.widx, ridx := d.ridx, consumer := d.consumer }

theorem channelStep_withRing (u d : Apu) : channelStep (u.withRing d) = (channelStep u).withRing d := by
  unfold channelStep Apu.withRing
  dsimp only
  split_ifs <;> rfl

theorem frameSequence_withRing (u d : Apu) : frameSequence (u.withRing d) = (frameSequence u).withRing d := by
  unfold frameSequence Apu.withRing
  dsimp only
  split_ifs <;> rfl

theorem frameStep_withRing (u d : Apu) : frameStep (u.withRing d) = (frameStep u).withRing d := by
  unfold frameStep
  split_ifs with h h' h'
  · exact frameSequence_withRing { u with fcDiv := 0 } d
  · exact absurd h h'
  · exact absurd h' h
  · rfl

theorem apuWrite_withRing (u d : Apu) (a : Word) (b : Byte) :
    apuWrite (u.withRing d) a b = (apuWrite u a b).withRing d := by
  unfold apuWrite frameWrite Apu.withRing
  dsimp only
  split_ifs <;> rfl

/-- A push writes the ring and `widx` alone (R323). -/
theorem ringPush_frame (u : Apu) (x : BitVec 16) : ringPush u x = u.withRing (ringPush u x) := by
  unfold ringPush
  split_ifs <;> rfl

theorem consumerTurn_frame (u : Apu) : consumerTurn u = u.withRing (consumerTurn u) := by
  obtain ⟨r, c, h⟩ := consumerTurn_eq u
  rw [h]
  rfl

/-- An emission is the consumer's turn and a push (R322, R325). -/
theorem ringPush_consumerTurn_frame (u : Apu) (x : BitVec 16) :
    ringPush (consumerTurn u) x = u.withRing (ringPush (consumerTurn u) x) := by
  have hpush := ringPush_frame (consumerTurn u) x
  have hturn := congrArg (fun v => v.withRing (ringPush (consumerTurn u) x)) (consumerTurn_frame u)
  exact hpush.trans hturn

/-- The sampler writes its accumulator and what the host sees (R322). -/
theorem sampleStep_frame (u : Apu) : sampleStep u =
    { u with acc := if u.acc + 100 ≥ 4058 then u.acc + 100 - 4058 else u.acc + 100 }.withRing (sampleStep u) := by
  unfold sampleStep
  split_ifs
  · exact ringPush_consumerTurn_frame _ _
  · rfl

/-- Nothing of the host's view reaches the rest of the audio unit in a tick (R324). -/
theorem apuTick_withRing (u d : Apu) : apuTick (u.withRing d) = (apuTick u).withRing (apuTick (u.withRing d)) := by
  have h : apuTick (u.withRing d) = sampleStep ((frameStep (channelStep u)).withRing d) := by
    rw [apuTick, channelStep_withRing, frameStep_withRing]
  rw [h]
  refine (sampleStep_frame _).trans ?_
  rw [apuTick, sampleStep_frame (frameStep (channelStep u))]
  rfl

/-! ### The host's view of the machine -/

/-- `s` with the host's view of `d`: the log, the ring, its indices and the consumer. -/
def State.withHostView (s d : State) : State := { s with log := d.log, apu := s.apu.withRing d.apu }

/-- `f` neither reads the host's view nor lets it out into the rest of the machine. -/
def Blind (f : State → State) : Prop := ∀ s d, ∃ e, f (s.withHostView d) = (f s).withHostView e

/-- So does an operation that also answers a value, which it does not take from the host's view either. -/
def BlindRead {α : Type} (f : State → α × State) : Prop :=
  ∀ s d, ∃ e, f (s.withHostView d) = ((f s).1, (f s).2.withHostView e)

theorem State.tick_blind : Blind State.tick := by
  intro s d
  refine ⟨(s.withHostView d).tick, ?_⟩
  have h : (s.withHostView d).tick.apu = s.tick.apu.withRing (s.withHostView d).tick.apu :=
    apuTick_withRing s.apu d.apu
  calc (s.withHostView d).tick = { s.tick with log := d.log, apu := (s.withHostView d).tick.apu } := rfl
    _ = _ := by rw [h]; rfl

theorem State.busRead_blind (a : Word) : BlindRead (State.busRead · a) := by
  intro s d
  dsimp only
  unfold State.busRead
  cases regionOf a with
  | ppuPort => 
    dsimp only
    split_ifs
    · exact ⟨d, rfl⟩
    · exact ⟨d.logged _, rfl⟩
  | apuChannel | dmaPort | unused => exact ⟨d.logged _, rfl⟩
  | _ => exact ⟨d, rfl⟩

theorem State.busWriteDirect_blind (a : Word) (v : Byte) : Blind (State.busWriteDirect · a v) := by
  intro s d
  have h : apuWrite (s.withHostView d).apu a v = _ := apuWrite_withRing s.apu d.apu a v
  dsimp only
  unfold State.busWriteDirect
  cases regionOf a with
  | apuChannel | apuStatus | pad2 => 
    dsimp only
    rw [h]
    exact ⟨d, rfl⟩
  | _ => exact ⟨d, rfl⟩

/-! ### Bus cycles, the stack and operands -/

@[simp] theorem State.withHostView_a (s d : State) : (s.withHostView d).a = s.a := rfl
@[simp] theorem State.withHostView_x (s d : State) : (s.withHostView d).x = s.x := rfl
@[simp] theorem State.withHostView_y (s d : State) : (s.withHostView d).y = s.y := rfl
@[simp] theorem State.withHostView_sp (s d : State) : (s.withHostView d).sp = s.sp := rfl
@[simp] theorem State.withHostView_p (s d : State) : (s.withHostView d).p = s.p := rfl
@[simp] theorem State.withHostView_pc (s d : State) : (s.withHostView d).pc = s.pc := rfl

theorem State.read_blind (a : Word) : BlindRead (State.read · a) := by
  intro s d
  obtain ⟨e, h⟩ := State.tick_blind s d
  obtain ⟨e', h'⟩ := State.busRead_blind a s.tick e
  exact ⟨e', by simpa only [State.read_eq, h] using h'⟩

theorem State.writeDirect_blind (a : Word) (v : Byte) : Blind (State.writeDirect · a v) := by
  intro s d
  obtain ⟨e, h⟩ := State.tick_blind s d
  obtain ⟨e', h'⟩ := State.busWriteDirect_blind a v s.tick e
  exact ⟨e', by simpa only [State.writeDirect_eq, h] using h'⟩

theorem dmaBytes_blind (page : Byte) : ∀ n i, Blind (dmaBytes page n i)
  | 0, _, _, d => ⟨d, rfl⟩
  | n + 1, i, s, d => by
    obtain ⟨e1, h1⟩ := State.read_blind (pageAddr page i) s d
    obtain ⟨e2, h2⟩ := State.writeDirect_blind 0x2004 (s.read (pageAddr page i)).1 (s.read (pageAddr page i)).2 e1
    obtain ⟨e3, h3⟩ := dmaBytes_blind page n (i + 1) _ e2
    exact ⟨e3, by simpa only [dmaBytes, h1, h2] using h3⟩

theorem State.oamDma_blind (page : Byte) : Blind (State.oamDma · page) := by
  intro s d
  obtain ⟨e1, h1⟩ := State.tick_blind s d
  obtain ⟨e2, h2⟩ := State.tick_blind s.tick e1
  have haligns : dmaAligns (s.withHostView d) = dmaAligns s := rfl
  simp only [State.oamDma, haligns, h1, h2]
  split_ifs
  · exact dmaBytes_blind page 256 0 _ e2
  · exact dmaBytes_blind page 256 0 _ e1

theorem State.write_blind (a : Word) (v : Byte) : Blind (State.write · a v) := by
  intro s d
  obtain ⟨e, h⟩ := State.tick_blind s d
  simp only [State.write_eq, h, State.busWrite]
  split_ifs
  · exact State.oamDma_blind v s.tick e
  · exact State.busWriteDirect_blind a v s.tick e

theorem State.readWord_blind (a : Word) : BlindRead (State.readWord · a) := by
  intro s d
  obtain ⟨e1, h1⟩ := State.read_blind a s d
  obtain ⟨e2, h2⟩ := State.read_blind (a + 1) (s.read a).2 e1
  exact ⟨e2, by simp only [State.readWord, h1, h2]⟩

theorem State.push_blind (v : Byte) : Blind (State.push · v) := by
  intro s d
  obtain ⟨e, h⟩ := State.write_blind (stackAddr s.sp) v s d
  exact ⟨e, by simp only [State.push, State.withHostView_sp, h]; rfl⟩

theorem State.pushWord_blind (w : Word) : Blind (State.pushWord · w) := by
  intro s d
  obtain ⟨e1, h1⟩ := State.push_blind (hiByte w) s d
  obtain ⟨e2, h2⟩ := State.push_blind (loByte w) (s.push (hiByte w)) e1
  exact ⟨e2, by simp only [State.pushWord, h1, h2]⟩

theorem State.pull_blind : BlindRead State.pull := by
  intro s d
  obtain ⟨e, h⟩ := State.read_blind (stackAddr (s.sp + 1)) { s with sp := s.sp + 1 } d
  exact ⟨e, h⟩

theorem State.pullWord_blind : BlindRead State.pullWord := by
  intro s d
  obtain ⟨e1, h1⟩ := State.pull_blind s d
  obtain ⟨e2, h2⟩ := State.pull_blind s.pull.2 e1
  exact ⟨e2, by simp only [State.pullWord, h1, h2]⟩

theorem indexed_blind (u : Use) (base : Word) (i : Byte) : BlindRead (indexed u base i) := by
  intro s d
  unfold indexed
  split_ifs
  · obtain ⟨e, h⟩ := State.tick_blind s d
    exact ⟨e, by rw [h]⟩
  · exact ⟨d, rfl⟩

theorem zeroPagePointer_blind (p : Byte) : BlindRead (zeroPagePointer p) := by
  intro s d
  obtain ⟨e1, h1⟩ := State.read_blind (zext16 p) s d
  obtain ⟨e2, h2⟩ := State.read_blind (zext16 (p + 1)) (s.read (zext16 p)).2 e1
  exact ⟨e2, by simp only [zeroPagePointer, h1, h2]⟩

theorem effAddr_blind (u : Use) (o : Operand) : BlindRead (effAddr u o) := by
  intro s d
  cases o with
  | imm | zp | abs => exact ⟨d, rfl⟩
  | zpx | zpy =>
    obtain ⟨e, h⟩ := State.tick_blind s d
    exact ⟨e, congrArg (Prod.mk _) h⟩
  | abx w => exact indexed_blind u w s.x s d
  | aby w => exact indexed_blind u w s.y s d
  | izx b =>
    obtain ⟨e, h⟩ := State.tick_blind s d
    simp only [effAddr, State.withHostView_x, h]
    exact zeroPagePointer_blind _ _ e
  | izy b =>
    obtain ⟨e, h⟩ := zeroPagePointer_blind b s d
    simp only [effAddr, h]
    exact indexed_blind u _ _ _ e

theorem readOp_blind (o : Operand) : BlindRead (readOp o) := by
  intro s d
  obtain ⟨e, h⟩ := effAddr_blind .readType o s d
  obtain ⟨e', h'⟩ := State.read_blind (effAddr .readType o s).1 (effAddr .readType o s).2 e
  cases o with
  | imm => exact ⟨d, rfl⟩
  | _ => exact ⟨e', by simpa only [readOp, h] using h'⟩

theorem writeOp_blind (o : Operand) (v : Byte) : Blind (writeOp o v) := by
  intro s d
  obtain ⟨e, h⟩ := effAddr_blind .writeType o s d
  simp only [writeOp, h]
  exact State.write_blind _ v _ e

theorem rmwOp_blind (o : Operand) (f : Byte → Byte → Modified) : BlindRead (rmwOp o f) := by
  intro s d
  obtain ⟨e1, h1⟩ := effAddr_blind .writeType o s d
  obtain ⟨e2, h2⟩ := State.read_blind (effAddr .writeType o s).1 (effAddr .writeType o s).2 e1
  obtain ⟨e3, h3⟩ := State.tick_blind ((effAddr .writeType o s).2.read (effAddr .writeType o s).1).2 e2
  simp only [rmwOp, h1, h2, h3, State.withHostView_p]
  generalize ((effAddr .writeType o s).2.read (effAddr .writeType o s).1).2.tick = t
  generalize ((effAddr .writeType o s).2.read (effAddr .writeType o s).1).1 = m
  obtain ⟨e4, h4⟩ := State.write_blind (effAddr .writeType o s).1 (f t.p m).byte { t with p := (f t.p m).status } e3
  exact ⟨e4, congrArg (Prod.mk _) h4⟩

theorem State.enterVector_blind (ret : Word) (status : Byte) (vector : Word) :
    Blind (State.enterVector · ret status vector) := by
  intro s d
  obtain ⟨e1, h1⟩ := State.pushWord_blind ret s d
  obtain ⟨e2, h2⟩ := State.push_blind status (s.pushWord ret) e1
  obtain ⟨e3, h3⟩ := State.readWord_blind vector ((s.pushWord ret).push status) e2
  exact ⟨e3, by simp only [State.enterVector_eq, h1, h2, h3]; rfl⟩

theorem State.returnFromException_blind : Blind State.returnFromException := by
  intro s d
  obtain ⟨e1, h1⟩ := State.pull_blind s d
  obtain ⟨e2, h2⟩ := State.pullWord_blind { s.pull.2 with p := pulledStatus s.pull.1 } e1
  have h2' : State.pullWord { s.pull.2.withHostView e1 with p := pulledStatus s.pull.1 } = _ := h2
  exact ⟨e2, by simp only [State.returnFromException, h1, h2']; rfl⟩

/-! ### The step -/

theorem modifyMem_blind (f : Byte → Byte → Modified) (o : Operand) : Blind (modifyMem f o) := by
  intro s d
  obtain ⟨e, h⟩ := rmwOp_blind o f s d
  exact ⟨e, by simp only [modifyMem, h]; rfl⟩

theorem branch_blind (f : Nat) (v : Bool) (b : Byte) : Blind (branch f v b) := by
  intro s d
  obtain ⟨e1, h1⟩ := State.tick_blind s d
  obtain ⟨e2, h2⟩ := State.tick_blind s.tick e1
  simp only [branch, State.withHostView_p, State.withHostView_pc, h1, h2]
  split_ifs
  · exact ⟨e2, rfl⟩
  · exact ⟨e1, rfl⟩
  · exact ⟨d, rfl⟩

/-- No operation lets the host's view reach the program. -/
theorem Act.run_blind (c : Act) : Blind c.run := by
  intro s d
  obtain ⟨e1, h1⟩ := State.tick_blind s d
  obtain ⟨e2, h2⟩ := State.tick_blind s.tick e1
  cases c with
  | loadA o | loadX o | loadY o | loadAX o | addMem o | subMem o | andMem o | orMem o | eorMem o | compareA o
  | compareX o | compareY o | bitTest o | readDiscard o =>
    obtain ⟨e, h⟩ := readOp_blind o s d
    refine ⟨e, ?_⟩
    simp only [Act.run, Machine.loadA, Machine.loadX, Machine.loadY, Machine.loadAX, Machine.addMem, Machine.subMem,
      Machine.andMem, Machine.orMem, Machine.eorMem, Machine.compareA, Machine.compareX, Machine.compareY,
      Machine.bitTest, Machine.readDiscard, h]
    rfl
  | storeA o =>
    obtain ⟨e, h⟩ := writeOp_blind o s.a s d
    exact ⟨e, congrArg (State.advance · o.len) h⟩
  | storeX o =>
    obtain ⟨e, h⟩ := writeOp_blind o s.x s d
    exact ⟨e, congrArg (State.advance · o.len) h⟩
  | storeY o =>
    obtain ⟨e, h⟩ := writeOp_blind o s.y s d
    exact ⟨e, congrArg (State.advance · o.len) h⟩
  | storeAX o =>
    obtain ⟨e, h⟩ := writeOp_blind o (s.a &&& s.x) s d
    exact ⟨e, congrArg (State.advance · o.len) h⟩
  | incMem o => exact modifyMem_blind incF o s d
  | decMem o => exact modifyMem_blind decF o s d
  | shiftMem k o => exact modifyMem_blind k.fn o s d
  | decCompare o =>
    obtain ⟨e, h⟩ := rmwOp_blind o decF s d
    exact ⟨e, by simp only [Act.run, Machine.decCompare, h]; rfl⟩
  | incSub o =>
    obtain ⟨e, h⟩ := rmwOp_blind o incF s d
    exact ⟨e, by simp only [Act.run, Machine.incSub, h]; rfl⟩
  | shiftOr o =>
    obtain ⟨e, h⟩ := rmwOp_blind o aslF s d
    exact ⟨e, by simp only [Act.run, Machine.shiftOr, h]; rfl⟩
  | rotateAnd o =>
    obtain ⟨e, h⟩ := rmwOp_blind o rolF s d
    exact ⟨e, by simp only [Act.run, Machine.rotateAnd, h]; rfl⟩
  | shiftEor o =>
    obtain ⟨e, h⟩ := rmwOp_blind o lsrF s d
    exact ⟨e, by simp only [Act.run, Machine.shiftEor, h]; rfl⟩
  | rotateAdd o =>
    obtain ⟨e, h⟩ := rmwOp_blind o rorF s d
    exact ⟨e, by simp only [Act.run, Machine.rotateAdd, h]; rfl⟩
  | transferAX | transferAY | transferXA | transferYA | transferSX | transferXS | incX | incY | decX | decY | shiftA k
  | setFlag f v | noOp =>
    refine ⟨e1, ?_⟩
    simp only [Act.run, Machine.transferAX, Machine.transferAY, Machine.transferXA, Machine.transferYA,
      Machine.transferSX, Machine.transferXS, Machine.incX, Machine.incY, Machine.decX, Machine.decY, Machine.shiftA,
      Machine.setFlag, Machine.noOp, h1]
    rfl
  | jumpTo w => exact ⟨d, rfl⟩
  | jumpIndirect w =>
    obtain ⟨e, h⟩ := State.read_blind w s d
    obtain ⟨e', h'⟩ := State.read_blind (pointerHigh w) (s.read w).2 e
    exact ⟨e', by simp only [Act.run, Machine.jumpIndirect, h, h']; rfl⟩
  | call w =>
    obtain ⟨e, h⟩ := State.pushWord_blind (s.pc + 2) s.tick e1
    exact ⟨e, by simp only [Act.run, Machine.call, h1, State.withHostView_pc, State.tick_pc, h]; rfl⟩
  | returnSub =>
    obtain ⟨e, h⟩ := State.pullWord_blind s.tick.tick e2
    obtain ⟨e', h'⟩ := State.tick_blind s.tick.tick.pullWord.2 e
    exact ⟨e', by simp only [Act.run, Machine.returnSub, h1, h2, h, h']; rfl⟩
  | branch f v b => exact branch_blind f v b s d
  | pushA =>
    obtain ⟨e, h⟩ := State.push_blind s.a s.tick e1
    exact ⟨e, by simp only [Act.run, Machine.pushA, h1, State.withHostView_a, State.tick_a, h]; rfl⟩
  | pushP =>
    obtain ⟨e, h⟩ := State.push_blind (pushedByInstr s.p) s.tick e1
    exact ⟨e, by simp only [Act.run, Machine.pushP, h1, State.withHostView_p, State.tick_p, h]; rfl⟩
  | pullA | pullP =>
    obtain ⟨e, h⟩ := State.pull_blind s.tick.tick e2
    exact ⟨e, by simp only [Act.run, Machine.pullA, Machine.pullP, h1, h2, h]; rfl⟩
  | softwareTrap =>
    obtain ⟨e, h⟩ := State.enterVector_blind (s.pc + 2) (pushedByInstr s.p) brkVector s.tick e1
    exact ⟨e, by simp only [Act.run, Machine.softwareTrap, h1, State.withHostView_pc, State.withHostView_p,
      State.tick_pc, State.tick_p, h]⟩
  | returnTrap =>
    obtain ⟨e, h⟩ := State.returnFromException_blind s.tick.tick e2
    exact ⟨e, by simp only [Act.run, Machine.returnTrap, h1, h2, h]⟩
  | unknownOpcode op => exact ⟨d.logged (.unknownOpcode op s.pc), rfl⟩

theorem State.nmiService_blind : Blind State.nmiService := by
  intro s d
  obtain ⟨e1, h1⟩ := State.tick_blind s d
  obtain ⟨e2, h2⟩ := State.tick_blind s.tick e1
  obtain ⟨e, h⟩ := State.enterVector_blind s.pc (pushedByNmi s.p) nmiVector s.tick.tick e2
  exact ⟨e, by simp only [State.nmiService, h1, h2, State.withHostView_pc, State.withHostView_p, State.tick_pc,
    State.tick_p, h]⟩

theorem fetch_blind : BlindRead fetch := by
  intro s d
  obtain ⟨e1, h1⟩ := State.read_blind s.pc s d
  obtain ⟨e2, h2⟩ := State.read_blind (s.pc + 1) (s.read s.pc).2 e1
  obtain ⟨e3, h3⟩ := State.read_blind (s.pc + 2) ((s.read s.pc).2.read (s.pc + 1)).2 e2
  simp only [fetch, State.withHostView_pc, h1, h2, h3]
  cases shapeOf (s.read s.pc).1 with
  | one i => exact ⟨e1, rfl⟩
  | two mk => exact ⟨e2, rfl⟩
  | three mk => exact ⟨e3, rfl⟩

/-- A step of the machine with another host's view ends in the same state with another host's view. -/
theorem step_withHostView {s t : State} (h : step s = .next t) (d : State) :
    ∃ e, step (s.withHostView d) = .next (t.withHostView e) := by
  by_cases hn : s.ppu.pendingNmi = true
  · obtain ⟨e, he⟩ := State.nmiService_blind s.clearNmi d
    rw [step, if_pos hn] at h
    have hstep : step (s.withHostView d) = .next (s.clearNmi.withHostView d).nmiService := if_pos hn
    exact ⟨e, by rw [hstep, he, Host.Outcome.next.inj h]⟩
  · obtain ⟨e, he⟩ := fetch_blind s d
    obtain ⟨e', he'⟩ := Act.run_blind (actOf (fetch s).1) (fetch s).2 e
    have hn' : s.ppu.pendingNmi = false := by simpa using hn
    rw [step_eq_exec_fetch hn', exec_eq] at h
    have hstep : step (s.withHostView d) = exec (fetch (s.withHostView d)).1 (fetch (s.withHostView d)).2 :=
      step_eq_exec_fetch hn'
    exact ⟨e', by rw [hstep, he, exec_eq, he', Host.Outcome.next.inj h]⟩

/-- States that are equal without the host's view are each other's with another one. -/
theorem State.eq_withHostView {s s' : State} (h : s.withoutHostView = s'.withoutHostView) : s' = s.withHostView s' :=
  calc s' = s'.withoutHostView.withHostView s' := rfl
    _ = s.withoutHostView.withHostView s' := by rw [h]
    _ = s.withHostView s' := rfl

/-- Settles O16: every operation carries the host's view along, and so does the step. -/
theorem hostViewNeverReachesTheProgram : Obligations.HostViewNeverReachesTheProgram := by
  intro s s' t t' h hs hs'
  obtain ⟨e, he⟩ := step_withHostView hs s'
  rw [← State.eq_withHostView h, hs'] at he
  rw [Host.Outcome.next.inj he]
  rfl

end Sys2Proof.Machine
end

section
/-! The family of 70_reset_and_hazards.md, time: what a step does is a run of CPU cycles, each three dots and one tick
of the audio unit, so both units stay in step with the cycle counter. -/

namespace Sys2Proof.Machine

/-! ### Runs of some number of cycles -/

/-- From `s` to `t` only CPU cycles pass, whatever their number. -/
def Clocked (s t : State) : Prop := ∃ n, ClockedRun n s t

theorem ClockedRun.clocked {n : Nat} {s t : State} (h : ClockedRun n s t) : Clocked s t := ⟨n, h⟩

theorem Clocked.refl (s : State) : Clocked s s := ⟨0, .refl s⟩

theorem Clocked.trans {s t u : State} (h : Clocked s t) (k : Clocked t u) : Clocked s u := by
  obtain ⟨m, h⟩ := h
  obtain ⟨n, k⟩ := k
  exact ⟨_, h.trans k⟩

theorem SameMoment.clocked {s t : State} (h : SameMoment s t) : Clocked s t := ⟨0, .done h⟩

/-- Writing CPU registers takes no time. -/
theorem Clocked.update {s t : State} (h : Clocked s t) (a x y sp p : Byte) (pc : Word) :
    Clocked s { t with a := a, x := x, y := y, sp := sp, p := p, pc := pc } :=
  h.trans (SameMoment.clocked ⟨rfl, rfl, rfl⟩)

theorem State.ticks_clocked (n : Nat) (s : State) : Clocked s (State.ticks n s) := ⟨n, State.ticks_run n s⟩

theorem State.read_clocked (s : State) (a : Word) : Clocked s (s.read a).2 := ⟨1, State.read_run s a⟩

theorem State.readWord_clocked (s : State) (a : Word) : Clocked s (s.readWord a).2 :=
  (State.read_clocked s a).trans (State.read_clocked _ _)

theorem State.pushWord_clocked (s : State) (w : Word) : Clocked s (s.pushWord w) :=
  have hhi : Clocked s (s.push (hiByte w)) := State.push_run s (hiByte w)
  hhi.trans (State.push_run _ _)

theorem State.pullWord_clocked (s : State) : Clocked s s.pullWord.2 :=
  (State.pull_run s).clocked.trans (State.pull_run _).clocked

theorem State.enterVector_clocked (s : State) (ret : Word) (status : Byte) (vector : Word) :
    Clocked s (s.enterVector ret status vector) := by
  have hpush : Clocked s ((s.pushWord ret).push status) := (State.pushWord_clocked s ret).trans (State.push_run _ _)
  rw [State.enterVector_eq]
  exact (hpush.trans (State.readWord_clocked _ vector)).update _ _ _ _ _ _

theorem State.returnFromException_clocked (s : State) : Clocked s s.returnFromException := by
  have hp : Clocked s { s.pull.2 with p := pulledStatus s.pull.1 } := (State.pull_run s).clocked.update _ _ _ _ _ _
  exact (hp.trans (State.pullWord_clocked _)).update _ _ _ _ _ _

/-! ### The step is a run of cycles -/

/-- Every operation is a run of CPU cycles and register writes (R381). -/
theorem Act.run_clocked (c : Act) (s : State) : Clocked s (c.run s) := by
  cases c with
  | loadA o | loadX o | loadY o | loadAX o | addMem o | subMem o | andMem o | orMem o | eorMem o | compareA o
  | compareX o | compareY o | bitTest o | readDiscard o =>
    exact Clocked.update (readOp_run o s) _ _ _ _ _ _
  | storeA o | storeX o | storeY o | storeAX o => exact Clocked.update (writeOp_run o _ s) _ _ _ _ _ _
  | incMem o | incSub o => exact Clocked.update (rmwOp_run o incF s) _ _ _ _ _ _
  | decMem o | decCompare o => exact Clocked.update (rmwOp_run o decF s) _ _ _ _ _ _
  | shiftMem k o => exact Clocked.update (rmwOp_run o k.fn s) _ _ _ _ _ _
  | shiftOr o => exact Clocked.update (rmwOp_run o aslF s) _ _ _ _ _ _
  | rotateAnd o => exact Clocked.update (rmwOp_run o rolF s) _ _ _ _ _ _
  | shiftEor o => exact Clocked.update (rmwOp_run o lsrF s) _ _ _ _ _ _
  | rotateAdd o => exact Clocked.update (rmwOp_run o rorF s) _ _ _ _ _ _
  | transferAX | transferAY | transferXA | transferYA | transferSX | transferXS | incX | incY | decX | decY | shiftA k
  | setFlag f v | noOp =>
    exact (State.ticks_clocked 1 s).update _ _ _ _ _ _
  | jumpTo w => exact (Clocked.refl s).update _ _ _ _ _ _
  | jumpIndirect w => exact ((State.read_clocked s w).trans (State.read_clocked _ _)).update _ _ _ _ _ _
  | call w => exact ((State.ticks_clocked 1 s).trans (State.pushWord_clocked _ _)).update _ _ _ _ _ _
  | returnSub =>
    have hpull := (State.ticks_clocked 2 s).trans (State.pullWord_clocked _)
    exact (hpull.trans (State.ticks_clocked 1 _)).update _ _ _ _ _ _
  | branch f v b =>
    by_cases h : s.p.getLsbD f = v
    · rw [Act.run, branch_taken b h]
      exact (State.ticks_clocked _ s).update _ _ _ _ _ _
    · rw [Act.run, branch_not_taken b h]
      exact (Clocked.refl s).update _ _ _ _ _ _
  | pushA | pushP => exact ((State.ticks_clocked 1 s).trans (State.push_run _ _)).update _ _ _ _ _ _
  | pullA | pullP => exact ((State.ticks_clocked 2 s).trans (State.pull_run _).clocked).update _ _ _ _ _ _
  | softwareTrap => exact (State.ticks_clocked 1 s).trans (State.enterVector_clocked _ _ _ _)
  | returnTrap => exact (State.ticks_clocked 2 s).trans (State.returnFromException_clocked _)
  | unknownOpcode op => exact SameMoment.clocked ⟨rfl, rfl, rfl⟩

theorem fetch_clocked (s : State) : Clocked s (fetch s).2 := by
  have hop := State.read_clocked s s.pc
  have hb1 := hop.trans (State.read_clocked _ (s.pc + 1))
  unfold fetch
  dsimp only
  split
  · exact hop
  · exact hb1
  · exact hb1.trans (State.read_clocked _ _)

theorem State.nmiService_clocked (s : State) : Clocked s s.nmiService :=
  (State.ticks_clocked 2 s).trans (State.enterVector_clocked _ _ _ _)

/-- The latch is cleared without a cycle (R220). -/
theorem State.clearNmi_moment (s : State) : SameMoment s s.clearNmi := ⟨rfl, rfl, rfl⟩

/-- A step is a run of CPU cycles (R381). -/
theorem step_clocked {s t : State} (h : step s = .next t) : Clocked s t := by
  by_cases hn : s.ppu.pendingNmi = true
  · rw [step, if_pos hn] at h
    rw [← Host.Outcome.next.inj h]
    exact (State.clearNmi_moment s).clocked.trans (State.nmiService_clocked _)
  · rw [step, if_neg hn, exec_eq] at h
    rw [← Host.Outcome.next.inj h]
    exact (fetch_clocked s).trans (Act.run_clocked _ _)

/-! ### What the runs keep -/

theorem State.ClockedSinceReset.trans {s t : State} (h : s.ClockedSinceReset) (k : Clocked s t) :
    t.ClockedSinceReset := by
  obtain ⟨init, c, m, hm, hrun⟩ := h
  obtain ⟨n, k⟩ := k
  exact ⟨init, c, m + n, by rw [k.counts, hm, Nat.add_assoc], hrun.trans k⟩

theorem State.AudioInStep.sameMoment {s t : State} (h : s.AudioInStep) (k : SameMoment s t) : t.AudioInStep := by
  obtain ⟨hcycle, _, hmoved⟩ := k
  have hparity : t.apu.parity = s.apu.parity := congrArg (fun u => u.parity) hmoved
  have hacc : t.apu.acc = s.apu.acc := congrArg (fun u => u.acc) hmoved
  unfold State.AudioInStep
  rw [hcycle, hparity, hacc]
  exact h

/-- A cycle flips the parity, and the accumulator is 100 for each cycle mod 4058 (R310, R322). -/
theorem State.AudioInStep.tick {s : State} (h : s.AudioInStep) : s.tick.AudioInStep := by
  obtain ⟨hle, hparity, hacc⟩ := h
  refine ⟨Nat.le_succ_of_le hle, ?_, ?_⟩
  · rw [State.tick_apu, apuTick_parity, hparity, State.tick_cycle, ← decide_not, decide_eq_decide]
    omega
  · rw [State.tick_apu, apuTick_acc, State.tick_cycle, hacc]
    split_ifs <;> omega

theorem State.AudioInStep.clocked {s t : State} (h : s.AudioInStep) (k : Clocked s t) : t.AudioInStep := by
  obtain ⟨n, k⟩ := k
  induction k with
  | done hm => exact h.sameMoment hm
  | cycle hm _ ih => exact ih (h.sameMoment hm).tick

/-- Every move but a reset is a run of cycles; all but the step take none (R348). -/
theorem move_clocked {m : Move} {s t : State} (hm : m ≠ .reset) (h : move m s = .next t) : Clocked s t := by
  cases m with
  | step => exact step_clocked h
  | reset => exact absurd rfl hm
  | drainAudio n =>
    obtain ⟨r, hr⟩ := consumerRemoves_eq n s.apu
    have hmoved : (consumerRemoves n s.apu).movedByTicks = s.apu.movedByTicks := by rw [hr]; rfl
    rw [← Host.Outcome.next.inj h]
    exact SameMoment.clocked ⟨rfl, rfl, hmoved⟩
  | setPc | sendInput | scheduleAudio | takeFrame =>
    rw [← Host.Outcome.next.inj h]
    exact SameMoment.clocked ⟨rfl, rfl, rfl⟩

/-- Settles O15: a cycle by its definition; a step, and every other move but a reset, is a run of cycles, and a run
keeps both units in step. -/
theorem devicesKeepInStepWithTheCycleCounter : Obligations.DevicesKeepInStepWithTheCycleCounter := by
  refine ⟨fun s => rfl, State.ticks_eq_iterate, fun s t h => ?_, fun init c => ?_, fun m s t hm h => ?_⟩
  · obtain ⟨n, hrun⟩ := step_clocked h
    exact ⟨n, hrun.counts, hrun⟩
  · exact ⟨⟨init, c, 0, rfl, .refl _⟩, Nat.le_refl 7, (decide_eq_false (by decide : ¬ 7 % 2 = 0)).symm, rfl⟩
  · exact ⟨fun hs => hs.trans (move_clocked hm h), fun hs => hs.clocked (move_clocked hm h)⟩

end Sys2Proof.Machine
end

section
/-! The family of 70_reset_and_hazards.md, timing: the cycles of each operation from its opcode fetch on, held against
the documented counts of the 256 opcodes, and against what its bus cycles and internal cycles add up to. -/

namespace Sys2Proof.Machine

/-! ### The documented counts by operation -/

/-- The cycles of an instruction that reads its operand, fetch included (R75, R76). -/
def readCycles (o : Operand) (s : State) : Nat :=
  match o with
  | .imm _ => 2
  | .zp _ => 3
  | .zpx _ | .zpy _ | .abs _ => 4
  | .abx w => 4 + if pageCross w s.x then 1 else 0
  | .aby w => 4 + if pageCross w s.y then 1 else 0
  | .izx _ => 6
  | .izy b => 5 + if pageCross (zeroPageWord s b) s.y then 1 else 0

/-- The cycles of an instruction that stores to its operand (R75, R76). -/
def storeCycles (o : Operand) : Nat :=
  match o with
  | .imm _ | .zp _ => 3
  | .zpx _ | .zpy _ | .abs _ => 4
  | .abx _ | .aby _ => 5
  | .izx _ | .izy _ => 6

/-- The length of an operation's instruction in bytes (R60). -/
def Act.len : Act → Nat
  | .loadA o | .loadX o | .loadY o | .loadAX o | .addMem o | .subMem o | .andMem o | .orMem o | .eorMem o
  | .compareA o | .compareX o | .compareY o | .bitTest o | .readDiscard o | .storeA o | .storeX o | .storeY o
  | .storeAX o | .incMem o | .decMem o | .shiftMem _ o | .decCompare o | .incSub o | .shiftOr o | .rotateAnd o
  | .shiftEor o | .rotateAdd o => o.len
  | .jumpTo _ | .jumpIndirect _ | .call _ => 3
  | .branch _ _ _ => 2
  | _ => 1

/-- The memory operand an operation stores to (R75). -/
def Act.stored : Act → Option Operand
  | .storeA o | .storeX o | .storeY o | .storeAX o | .incMem o | .decMem o | .shiftMem _ o | .decCompare o | .incSub o
  | .shiftOr o | .rotateAnd o | .shiftEor o | .rotateAdd o => some o
  | _ => none

/-- The cycles of an operation from its opcode fetch on, an OAM DMA left out (R76). -/
def Act.cycles (c : Act) (s : State) : Nat :=
  match c with
  | .loadA o | .loadX o | .loadY o | .loadAX o | .addMem o | .subMem o | .andMem o | .orMem o | .eorMem o
  | .compareA o | .compareX o | .compareY o | .bitTest o | .readDiscard o => readCycles o s
  | .storeA o | .storeX o | .storeY o | .storeAX o => storeCycles o
  | .incMem o | .decMem o | .shiftMem _ o | .decCompare o | .incSub o | .shiftOr o | .rotateAnd o | .shiftEor o
  | .rotateAdd o => storeCycles o + 2
  | .transferAX | .transferAY | .transferXA | .transferYA | .transferSX | .transferXS | .incX | .incY | .decX | .decY
  | .shiftA _ | .setFlag _ _ | .noOp => 2
  | .jumpTo _ => 3
  | .jumpIndirect _ => 5
  | .call _ | .returnSub | .returnTrap => 6
  | .branch f v b => 2 + if s.p.getLsbD f = v then takenCycles s.pc b else 0
  | .pushA | .pushP => 3
  | .pullA | .pullP => 4
  | .softwareTrap => 7
  | .unknownOpcode _ => 1

theorem instrCycles_eq (i : Instr) (s : State) : instrCycles i s = (actOf i).cycles s := by
  unfold instrCycles
  cases i <;> dsimp only [Instr.opcode] <;> rfl

theorem storedOperand_eq (i : Instr) : storedOperand i = (actOf i).stored := by
  cases i <;> rfl

theorem opcodeLength_opcode (i : Instr) : opcodeLength i.opcode = (actOf i).len := by
  unfold opcodeLength
  cases i <;> dsimp only [Instr.opcode] <;> rfl

/-! ### The cycles that pass -/

theorem fetch_opcode (s : State) : (fetch s).1.opcode = (s.read s.pc).1 := by
  have h := opcode_build_shapeOf (s.read s.pc).1
  unfold fetch
  cases hs : shapeOf (s.read s.pc).1 with
  | one i => simpa [hs, Shape.build] using h 0 0
  | two mk => simpa [hs, Shape.build] using h ((s.read s.pc).2.read (s.pc + 1)).1 0
  | three mk => simpa [hs, Shape.build] using h 0 _

/-- The fetch takes a cycle for each byte (R51, R61). -/
theorem fetch_cycle (s : State) : (fetch s).2.cycle = s.cycle + (actOf (fetch s).1).len := by
  rw [← opcodeLength_opcode, fetch_opcode]
  cases h : shapeOf (s.read s.pc).1 with
  | one i =>
    have hlen : opcodeLength (s.read s.pc).1 = 1 := by rw [opcodeLength, h]
    rw [hlen, fetch_one (.one h), State.read_cycle]
  | two mk =>
    have hlen : opcodeLength (s.read s.pc).1 = 2 := by rw [opcodeLength, h]
    rw [hlen, fetch_two (.two h), State.read_cycle, State.read_cycle]
  | three mk =>
    have hlen : opcodeLength (s.read s.pc).1 = 3 := by rw [opcodeLength, h]
    rw [hlen, fetch_three (.three h), State.read_cycle, State.read_cycle, State.read_cycle]

theorem regionOf_dmaPort_iff (a : Word) : regionOf a = .dmaPort ↔ a = 0x4014 := by
  refine ⟨fun h => ?_, fun h => h ▸ rfl⟩
  unfold regionOf at h
  split_ifs at h
  assumption

/-- A write cycle is one cycle, and to $4014 the DMA's as well (R35, R44). -/
theorem State.write_cycle (s : State) (a : Word) (v : Byte) :
    (s.write a v).cycle = s.cycle + 1 + if a = 0x4014 then dmaCycles (s.cycle + 1) else 0 := by
  by_cases ha : a = 0x4014
  · rw [ha, State.write_dmaPort_cycle, if_pos rfl, dmaCycles]
    omega
  · rw [State.write_eq, State.busWrite, if_neg (mt (regionOf_dmaPort_iff a).1 ha), State.busWriteDirect_cycle,
      if_neg ha]
    rfl

/-- The operand's bytes after the opcode, the helper, and the read cycle (R75). -/
theorem readCycles_eq (o : Operand) (s : State) (h : ∀ b, o ≠ .imm b) :
    readCycles o s = o.len + helperCycles .readType o s + 1 := by
  cases o with
  | imm b => exact absurd rfl (h b)
  | zp | zpx | zpy | abs | izx => rfl
  | abx | aby | izy =>
    simp only [readCycles, Operand.len, helperCycles, reduceCtorEq, false_or]
    split_ifs <;> rfl

/-- The operand's bytes after the opcode, the helper, and the write cycle (R75). -/
theorem storeCycles_eq (o : Operand) (s : State) : storeCycles o = o.len + helperCycles .writeType o s + 1 := by
  cases o <;> simp [storeCycles, helperCycles, Operand.len]

section AfterFetch

variable {s : State} {n : Nat}

/-- An operand read of an instruction that began at count `n`. -/
theorem readOp_cycle (o : Operand) (h : s.cycle = n + o.len) : (readOp o s).2.cycle = n + readCycles o s := by
  cases o with
  | imm b => exact h
  | _ =>
    refine (State.read_cycle _ _).trans ?_
    rw [effAddr_cycle, readCycles_eq _ s (fun _ => by nofun), h]
    omega

/-- What the DMA adds to an instruction that stores to `a` in its last cycle, the counter then being `n` (R44). -/
def dmaExtra (a : Word) (n : Nat) : Nat := if a = 0x4014 then dmaCycles n else 0

theorem writeOp_cycle (o : Operand) (v : Byte) (h : s.cycle = n + o.len) : (writeOp o v s).cycle =
    n + storeCycles o + dmaExtra (effAddr .writeType o s).1 (n + storeCycles o) := by
  have hn : s.cycle + helperCycles .writeType o s + 1 = n + storeCycles o := by
    rw [storeCycles_eq o s, h]
    omega
  rw [writeOp, State.write_cycle, effAddr_cycle, hn]
  rfl

theorem rmwOp_cycle (o : Operand) (f : Byte → Byte → Modified) (h : s.cycle = n + o.len) : (rmwOp o f s).2.cycle =
    n + (storeCycles o + 2) + dmaExtra (effAddr .writeType o s).1 (n + (storeCycles o + 2)) := by
  have hn : s.cycle + helperCycles .writeType o s + 1 + 1 + 1 = n + (storeCycles o + 2) := by
    rw [storeCycles_eq o s, h]
    omega
  rw [rmwOp_eq]
  refine (State.write_cycle _ _ _).trans ?_
  rw [State.tick_cycle, State.read_cycle, effAddr_cycle, hn]
  rfl

/-- What the DMA adds to an operation, the counter being `n` after the write cycle that starts it (R44). -/
def Act.dma (c : Act) (s : State) (n : Nat) : Nat :=
  match c.stored with
  | some o => dmaExtra (effAddr .writeType o s).1 n
  | none => 0

theorem State.enterVector_cycle (s : State) (ret : Word) (status : Byte) (vector : Word) :
    (s.enterVector ret status vector).cycle = s.cycle + 5 := by
  obtain ⟨_, _, h, _⟩ := State.enterVector_spec s ret status vector
  exact h

/-- An operation whose instruction began at count `n`. -/
theorem Act.run_cycle (c : Act) (h : s.cycle = n + c.len) :
    (c.run s).cycle = n + c.cycles s + c.dma s (n + c.cycles s) := by
  cases c with
  | loadA o | loadX o | loadY o | loadAX o | addMem o | subMem o | andMem o | orMem o | eorMem o | compareA o
  | compareX o | compareY o | bitTest o | readDiscard o => exact readOp_cycle o h
  | storeA o | storeX o | storeY o | storeAX o => exact writeOp_cycle o _ h
  | incMem o | decMem o | shiftMem k o | decCompare o | incSub o | shiftOr o | rotateAnd o | shiftEor o | rotateAdd o =>
    exact rmwOp_cycle o _ h
  | transferAX | transferAY | transferXA | transferYA | transferSX | transferXS | incX | incY | decX | decY | shiftA k
  | setFlag f v | noOp => exact congrArg (· + 1) h
  | jumpTo w | unknownOpcode op => exact h
  | jumpIndirect w => 
    exact (State.read_cycle _ _).trans (by rw [State.read_cycle, h]; rfl)
  | call w =>
    refine (State.push_cycle _ _).trans ?_
    rw [State.push_cycle, State.tick_cycle, h]
    rfl
  | returnSub =>
    refine congrArg (· + 1) (State.pull_cycle _) |>.trans ?_
    rw [State.pull_cycle, State.tick_cycle, State.tick_cycle, h]
    rfl
  | branch f v b =>
    rw [Act.cycles]
    by_cases hf : s.p.getLsbD f = v
    · rw [Act.run, branch_taken b hf, if_pos hf]
      refine (State.ticks_run (takenCycles s.pc b) s).counts.trans ?_
      rw [h]
      exact Nat.add_assoc n 2 _
    · rw [Act.run, branch_not_taken b hf, if_neg hf]
      exact h
  | pushA | pushP =>
    refine (State.push_cycle _ _).trans ?_
    rw [State.tick_cycle, h]
    rfl
  | pullA | pullP =>
    refine (State.pull_cycle _).trans ?_
    rw [State.tick_cycle, State.tick_cycle, h]
    rfl
  | softwareTrap =>
    refine (State.enterVector_cycle _ _ _ _).trans ?_
    rw [State.tick_cycle, h]
    rfl
  | returnTrap =>
    refine (State.pull_cycle _).trans ?_
    rw [State.pull_cycle]
    refine congrArg (· + 1 + 1) (State.pull_cycle _) |>.trans ?_
    rw [State.tick_cycle, State.tick_cycle, h]
    rfl

end AfterFetch

/-- Settles O12: the counts are the table's, operation by operation, and are what the cycles add up to. -/
theorem stepTakesTheDocumentedCycles : Obligations.StepTakesTheDocumentedCycles := by
  intro s t hn hs i f
  rw [step_eq_exec_fetch hn, exec_eq] at hs
  rw [← Host.Outcome.next.inj hs, Act.run_cycle _ (fetch_cycle s), ← instrCycles_eq, Act.dma, ← storedOperand_eq]
  unfold startsDma
  cases storedOperand i with
  | none => rfl
  | some o =>
    simp only [dmaExtra, decide_eq_true_eq]
    rfl

end Sys2Proof.Machine
end

section
/-! The family of 63_controllers_and_host.md, the host's calls and the controllers, and with it the reset values, the
example words and the unknown opcodes. -/

namespace Sys2Proof.Machine

/-! ### Single words and opcodes -/

/-- Settles O4: each word is decoded by its entry in the opcode matrix. -/
theorem exampleWordsDecode : Obligations.ExampleWordsDecode :=
  ⟨rfl, rfl, rfl, rfl, rfl, rfl, rfl, rfl, rfl, rfl, rfl, rfl, rfl⟩

/-- The unknown instructions are the operations that log their opcode (R212). -/
theorem actOf_unknownForms : unknownForms.map (fun e => actOf e.1) = unknownForms.map (fun e => .unknownOpcode e.2) :=
  rfl

/-- Settles O42: each entry of the list is the operation that logs its opcode and skips it. -/
theorem unknownOpcodesLogAndSkip : Obligations.UnknownOpcodesLogAndSkip := by
  intro i op s h
  rw [exec_eq, List.map_inj_left.1 actOf_unknownForms (i, op) h]
  rfl

/-! ### Reset -/

/-- A bus read of the cartridge's range is the cartridge's, and changes nothing else (R36, R345). -/
theorem State.busRead_cartridge (s : State) {a : Word} (h : 0x6000 ≤ a) :
    s.busRead a = ((s.cart.cpuRead a).1, { s with cart := (s.cart.cpuRead a).2 }) := by
  rw [State.busRead, regionOf_cartridge h]

/-- A reset reads the vector from the cartridge and sets four registers (R360). -/
theorem hostReset_eq (s : State) :
    let lo := s.cart.cpuRead 0xFFFC
    let hi := lo.2.cpuRead 0xFFFD
    hostReset s = { s with pc := wordOf lo.1 hi.1, sp := 0xFD, p := 0x24, cycle := 7, cart := hi.2 } := by
  have hvector : resetVector + 1 = 0xFFFD := rfl
  rw [hostReset, hvector, resetVector, s.busRead_cartridge (by decide), State.busRead_cartridge _ (by decide)]

theorem hostReset_same (s : State) : SameMemory s (hostReset s) := by
  rw [hostReset_eq]
  exact SameMemory.of_parts rfl (by simp) rfl rfl rfl

/-- The constructed machine's reset reads the cartridge's vector (R23, R360). -/
theorem resetFrom_eq_hostReset (init : RamInit) (c : Mapper) :
    State.resetFrom init c = hostReset (State.constructedFrom init c) := by
  rw [hostReset_eq]
  rfl

/-- Settles O11: the four registers and the cartridge come from the reset, every other row from the construction. -/
theorem constructedMachineHasTheListedValues : Obligations.ConstructedMachineHasTheListedValues := by
  refine ⟨rfl, fun n => ⟨rfl, rfl, rfl, rfl⟩, fun init c => ?_⟩
  intro t lo hi u p
  have hflat : ∀ f, c = .flat32 f → t.cart = c := by
    rintro f rfl
    rfl
  have hunits : ∀ un ∈ u.spr, un.valid = false := by
    intro un hun
    rw [List.eq_of_mem_replicate hun]
  have hpulse : ∀ ch : Pulse, ch = p.p1 ∨ ch = p.p2 → ch = {} := by
    rintro ch (rfl | rfl) <;> rfl
  refine ⟨resetFrom_eq_hostReset init c, rfl, rfl, rfl, rfl, rfl, rfl, rfl, rfl, rfl, hflat, ?_, fun ch hch => ?_,
    ⟨rfl, rfl, rfl, rfl, rfl, rfl, rfl, rfl, rfl⟩, ⟨rfl, rfl, rfl, rfl, rfl, rfl, rfl, rfl⟩,
    ⟨rfl, rfl, rfl, rfl, rfl, fun _ => rfl, rfl, rfl⟩, rfl, rfl, rfl, rfl, rfl⟩
  · exact ⟨rfl, rfl, rfl, rfl, rfl, rfl, rfl, rfl, rfl, rfl, rfl, rfl, rfl, rfl, rfl, rfl, rfl, rfl, rfl, rfl, rfl,
      hunits, rfl, rfl, rfl, rfl, rfl, rfl, rfl, rfl, rfl, rfl, fun _ _ => rfl⟩
  · rw [hpulse ch hch]
    exact ⟨rfl, rfl, rfl, rfl, rfl, rfl, rfl, rfl⟩

/-! ### Input -/

theorem padInput_first (u : Pads) {k : Nat} (pressed : Bool) (h : k < 8) :
    padInput u k pressed = { u with buttons0 := setBit u.buttons0 k pressed } := by
  rw [padInput, Config.inputMap, if_pos h]

theorem padInput_second (u : Pads) {k : Nat} (pressed : Bool) (h1 : ¬ k < 8) (h2 : k < 16) :
    padInput u k pressed = { u with buttons1 := setBit u.buttons1 (k - 8) pressed } := by
  rw [padInput, Config.inputMap, if_neg h1, if_pos h2]

theorem padInput_none (u : Pads) {k : Nat} (pressed : Bool) (h1 : ¬ k < 8) (h2 : ¬ k < 16) :
    padInput u k pressed = u := by
  rw [padInput, Config.inputMap, if_neg h1, if_neg h2]

/-- The eight lowest indices are the buttons of controller 1, the next eight those of controller 2 (R350, D61). -/
theorem padInput_spec (u : Pads) (k : Nat) (pressed : Bool) :
    let q := padInput u k pressed
    q = { u with buttons0 := q.buttons0, buttons1 := q.buttons1 } ∧
      ∀ j, j < 8 → q.buttons0.getLsbD j = (if k = j then pressed else u.buttons0.getLsbD j) ∧
        q.buttons1.getLsbD j = (if k = 8 + j then pressed else u.buttons1.getLsbD j) := by
  by_cases h1 : k < 8
  · rw [padInput_first u pressed h1]
    refine ⟨rfl, fun j hj => ⟨?_, ?_⟩⟩
    · simp only [getLsbD_setBit _ _ _ _ h1, eq_comm]
    · rw [if_neg (by omega)]
  · by_cases h2 : k < 16
    · rw [padInput_second u pressed h1 h2]
      refine ⟨rfl, fun j hj => ⟨?_, ?_⟩⟩
      · rw [if_neg (by omega)]
      · have hk : (j = k - 8) = (k = 8 + j) := by
          rw [eq_iff_iff]
          omega
        simp only [getLsbD_setBit u.buttons1 (k - 8) pressed j (by omega), hk]
    · rw [padInput_none u pressed h1 h2]
      refine ⟨rfl, fun j hj => ⟨?_, ?_⟩⟩ <;> rw [if_neg (by omega)]

/-! ### A frame -/

theorem stepFrame_ready {s : State} (h : s.ppu.frameReady = true) (bound : Nat) :
    stepFrame bound s = some (s.ppu.fb, { s with ppu := { s.ppu with frameReady := false } }) := by
  cases bound <;> rw [stepFrame, if_pos h]

theorem stepFrame_step {s t : State} (h : s.ppu.frameReady = false) (hs : step s = .next t) (n : Nat) :
    stepFrame (n + 1) s = stepFrame n t := by
  rw [stepFrame, h, hs]
  rfl

/-- Along a run on which no frame is ready `step_frame` makes the run's steps (R349). -/
theorem stepFrame_run (more : Nat) : ∀ (n : Nat) (run : Nat → State),
    (∀ k, k < n → (run k).ppu.frameReady = false ∧ step (run k) = .next (run (k + 1))) →
      stepFrame (n + more) (run 0) = stepFrame more (run n)
  | 0, run, _ => by rw [Nat.zero_add]
  | n + 1, run, h => by
    obtain ⟨hready, hstep⟩ := h 0 (Nat.succ_pos n)
    rw [Nat.add_right_comm, stepFrame_step hready hstep]
    exact stepFrame_run more n (fun k => run (k + 1)) fun k hk => h (k + 1) (Nat.succ_lt_succ hk)

/-- Settles O10: reset reads the cartridge's vector; the input map index by index; `step_frame` follows a run. -/
theorem hostCallsAndWhatTheyChange : Obligations.HostCallsAndWhatTheyChange := by
  refine ⟨fun s => ?_, fun s a => ⟨rfl, rfl⟩, fun s k pressed => ?_, fun n run h => ⟨fun hready bound hn => ?_,
    fun hready => ?_⟩, fun s a k pressed turns => ⟨rfl, rfl, rfl, rfl, rfl, rfl, rfl⟩⟩
  · intro lo hi t
    have ht : t = _ := hostReset_eq s
    have hsame : SameMemory s t := hostReset_same s
    refine ⟨rfl, rfl, rfl, rfl, ?_, ?_, ?_, ?_, ?_, ?_, ?_, hsame, rfl⟩ <;> rw [ht]
  · obtain ⟨hframe, hbits⟩ := padInput_spec s.pads k pressed
    exact ⟨congrArg (fun q => { s with pads := q }) hframe, hbits⟩
  · obtain ⟨more, rfl⟩ := Nat.exists_eq_add_of_le hn
    rw [stepFrame_run more n run h, stepFrame_ready hready]
  · exact (stepFrame_run 0 n run h).trans (if_neg (by simp [hready]))

/-! ### Controllers -/

/-- A read with the strobe at 0 moves the register on and puts a 1 in at the top (R342). -/
theorem padShifted_eq (sh : Byte) : padShifted sh = BitVec.ofNat 8 (sh.toNat / 2 + 128) := by
  revert sh
  decide

/-- After `k` shifts bit `j` is the old bit `j + k`, and 1 where there is none (R342). -/
theorem padShifted_iterate_bits (sh : Byte) : ∀ k j, j < 8 →
    (padShifted^[k] sh).getLsbD j = (decide (8 ≤ j + k) || sh.getLsbD (j + k))
  | 0, j, hj => by simp [Nat.not_le.2 hj]
  | k + 1, j, hj => by
    have htop : (0x80 : Byte).getLsbD j = decide (j = 7) := by
      revert j
      decide
    rw [Function.iterate_succ_apply', padShifted, BitVec.getLsbD_or, BitVec.getLsbD_ushiftRight, htop]
    obtain rfl | hlt : j = 7 ∨ j + 1 < 8 := by omega
    · simp [show 8 ≤ 7 + (k + 1) by omega]
    · rw [Nat.add_comm 1 j, padShifted_iterate_bits sh k (j + 1) hlt, Nat.add_right_comm j 1 k]
      simp [show j ≠ 7 by omega, Nat.add_assoc]

theorem and_one_eq_bitOf (b : Byte) : b &&& 1 = bitOf 8 (b.getLsbD 0) := by
  revert b
  decide

/-- The read after `k` others gives button `k`, and 1 when all eight are out (R341, R342). -/
theorem padShifted_iterate_and_one (sh : Byte) (k : Nat) :
    padShifted^[k] sh &&& 1 = if k < 8 then (sh >>> k) &&& 1 else 1 := by
  rw [and_one_eq_bitOf, padShifted_iterate_bits sh k 0 (by decide), Nat.zero_add]
  split_ifs with hk
  · rw [and_one_eq_bitOf, BitVec.getLsbD_ushiftRight, Nat.add_zero, decide_eq_false (by omega), Bool.false_or]
  · rw [decide_eq_true (by omega), Bool.true_or]
    rfl

/-- The shift register that a read of one controller moves. -/
def Pads.shiftOf (u : Pads) (second : Bool) : Byte := if second then u.shift1 else u.shift0

/-- The live buttons of one controller. -/
def Pads.held (u : Pads) (second : Bool) : Byte := if second then u.buttons1 else u.buttons0

/-- With the strobe at 0 a read gives bit 0 of its register and moves the register on (R342). -/
theorem padRead_shift {u : Pads} (second : Bool) (h : u.strobe = false) :
    (padRead u second).1 = u.shiftOf second &&& 1 ∧ (padRead u second).2.strobe = false ∧
      (padRead u second).2.shiftOf second = padShifted (u.shiftOf second) := by
  unfold padRead
  cases second <;> simp [h, Pads.shiftOf]

/-- With the strobe at 1, and so the registers latched, a read gives the A button and changes nothing (R343). -/
theorem padRead_open {u : Pads} (second : Bool) (h : u.strobe = true) (h0 : u.shift0 = u.buttons0)
    (h1 : u.shift1 = u.buttons1) : padRead u second = (u.held second &&& 1, u) := by
  cases u
  cases h
  cases h0
  cases h1
  cases second <;> rfl

theorem padReads_shift (second : Bool) {u : Pads} (h : u.strobe = false) : ∀ k,
    let p := (fun p => (padRead p second).2)^[k] u
    p.strobe = false ∧ p.shiftOf second = padShifted^[k] (u.shiftOf second)
  | 0 => ⟨h, rfl⟩
  | k + 1 => by
    obtain ⟨hstrobe, hshift⟩ := padReads_shift second h k
    obtain ⟨_, hstrobe', hshift'⟩ := padRead_shift second hstrobe
    rw [Function.iterate_succ_apply', Function.iterate_succ_apply', ← hshift]
    exact ⟨hstrobe', hshift'⟩

theorem padStrobe_eq (u : Pads) (b : Byte) : padStrobe u b = { u with
    strobe := b.getLsbD 0
    shift0 := if b.getLsbD 0 then u.buttons0 else u.shift0
    shift1 := if b.getLsbD 0 then u.buttons1 else u.shift1 } := by
  unfold padStrobe
  cases b.getLsbD 0 <;> rfl

/-- Settles O60: a latched register shifts out its buttons; with the strobe at 1 it is loaded at each read. -/
theorem controllerReadsShiftOutTheButtons : Obligations.ControllerReadsShiftOutTheButtons := by
  refine ⟨padStrobe_eq, fun u => ?_, fun u b1 b0 second k h1 h0 => ?_⟩
  · intro after bit
    simp only [after, bit, padRead, padShifted_eq]
    cases u.strobe <;> exact ⟨rfl, rfl⟩
  · intro held rd
    have hlatch : padStrobe u b1 = { u with strobe := true, shift0 := u.buttons0, shift1 := u.buttons1 } := by
      rw [padStrobe_eq, h1]
      rfl
    refine ⟨?_, ?_⟩
    · have hclosed : padStrobe (padStrobe u b1) b0 =
          { u with strobe := false, shift0 := u.buttons0, shift1 := u.buttons1 } := by
        rw [padStrobe_eq, h0, hlatch]
        rfl
      obtain ⟨hstrobe, hshift⟩ := padReads_shift second (u := padStrobe (padStrobe u b1) b0) (by rw [hclosed]) k
      obtain ⟨hbit, _⟩ := padRead_shift second hstrobe
      refine hbit.trans ?_
      rw [hshift, hclosed]
      exact padShifted_iterate_and_one held k
    · have hopen := padRead_open second (u := padStrobe u b1) (by rw [hlatch]) (by rw [hlatch]) (by rw [hlatch])
      rw [Function.iterate_fixed (congrArg Prod.snd hopen)]
      refine (congrArg Prod.fst hopen).trans ?_
      rw [hlatch]
      rfl

end Sys2Proof.Machine
end

section
/-! The family of 62_apu.md, the ports: the fields each register writes in numbers, and which channel an address
reaches. -/

namespace Sys2Proof.Machine

/-! ### Fields in numbers -/

theorem timerLow_toNat (tl : BitVec 11) (b : Byte) :
    (timerLow tl b).toNat = tl.toNat / 256 * 256 + b.toNat := by
  have hlow := toNat_field_eq 0 0 8 (x := timerLow tl b) (y := b) fun k hk => by
    interval_cases k <;> simp [timerLow]
  have hhigh := toNat_field_eq 8 8 3 (x := timerLow tl b) (y := tl) fun k hk => by
    interval_cases k <;> simp [timerLow]
  have := (timerLow tl b).isLt
  have := tl.isLt
  have := b.isLt
  omega

theorem timerHigh_toNat (tl : BitVec 11) (b : Byte) :
    (timerHigh tl b).toNat = b.toNat % 8 * 256 + tl.toNat % 256 := by
  have hlow := toNat_field_eq 0 0 8 (x := timerHigh tl b) (y := tl) fun k hk => by
    interval_cases k <;> simp [timerHigh]
  have hhigh := toNat_field_eq 8 0 3 (x := timerHigh tl b) (y := b) fun k hk => by
    interval_cases k <;> simp [timerHigh]
  have := (timerHigh tl b).isLt
  omega

/-- What a write of `b` to a length register leaves of the length counter: the table's entry where the channel is
enabled (R308, R309). -/
def LengthLoaded (b : Byte) (on : Bool) (old new : Byte) : Prop :=
  if on then
    [10, 254, 20, 2, 40, 4, 80, 6, 160, 8, 60, 10, 14, 12, 26, 14, 12, 16, 24, 18, 48, 20, 96, 22, 192, 24, 72, 26,
      16, 28, 32, 30][b.toNat / 8]? = some new.toNat
  else new = old

theorem lengthLoaded_lengthLoad (b : Byte) (on : Bool) (old : Byte) : LengthLoaded b on old (lengthLoad on old b) := by
  cases on with
  | true =>
    rw [LengthLoaded, lengthLoad, if_pos rfl, if_pos rfl]
    revert b
    decide
  | false => rfl

/-- The noise load of index `b[3:0]` (R316). -/
theorem noiseLoad_low (b : Byte) :
    [1, 3, 7, 15, 31, 47, 63, 79, 100, 126, 189, 253, 380, 507, 1016, 2033][b.toNat % 16]? =
      some (noiseLoad (b.setWidth 4)).toNat := by
  revert b
  decide

theorem dutyField_toNat (b : Byte) : ((b >>> 6).setWidth 2).toNat = b.toNat / 64 := by
  revert b
  decide

/-- The status byte shows the four length counters that are not 0 (R306). -/
theorem getLsbD_apuStatusRead (u : Apu) (k : Nat) : (apuStatusRead u).getLsbD k =
    if k = 0 then u.p1.lengthValue != 0 else if k = 1 then u.p2.lengthValue != 0
    else if k = 2 then u.tri.lengthValue != 0 else if k = 3 then u.ns.lengthValue != 0 else false := by
  by_cases hk : k < 8
  · simp only [apuStatusRead, BitVec.getLsbD_or, BitVec.getLsbD_shiftLeft, getLsbD_bitOf]
    interval_cases k <;> simp
  · rw [BitVec.getLsbD_of_ge _ _ (Nat.le_of_not_lt hk), if_neg, if_neg, if_neg, if_neg] <;> omega

/-! ### The registers of a channel -/

/-- The four registers of a pulse (R301, D50). -/
theorem pulseWrite_spec (ch : Pulse) (b : Byte) :
    let w := fun r : Nat => pulseWrite ch (BitVec.ofNat 2 r) b
    w 0 = { ch with duty := (w 0).duty, halt := b.getLsbD 5, volume := (w 0).volume } ∧
      (w 0).duty.toNat = b.toNat / 64 ∧ (w 0).volume.toNat = b.toNat % 16 ∧ w 1 = ch ∧
      w 2 = { ch with timerLoad := (w 2).timerLoad } ∧
      (w 2).timerLoad.toNat = ch.timerLoad.toNat / 256 * 256 + b.toNat ∧
      w 3 = { ch with timerLoad := (w 3).timerLoad, lengthValue := (w 3).lengthValue, pos := 0 } ∧
      (w 3).timerLoad.toNat = b.toNat % 8 * 256 + ch.timerLoad.toNat % 256 ∧
      LengthLoaded b ch.enabled ch.lengthValue (w 3).lengthValue :=
  ⟨rfl, dutyField_toNat b, BitVec.toNat_setWidth 4 b, rfl, rfl, timerLow_toNat _ b, rfl, timerHigh_toNat _ b,
    lengthLoaded_lengthLoad b _ _⟩

/-- The four registers of the triangle (R302, D50). -/
theorem triWrite_spec (ch : Triangle) (b : Byte) :
    let w := fun r : Nat => triWrite ch (BitVec.ofNat 2 r) b
    w 0 = { ch with control := b.getLsbD 7, linearReload := (w 0).linearReload } ∧
      (w 0).linearReload.toNat = b.toNat % 128 ∧ w 1 = ch ∧ w 2 = { ch with timerLoad := (w 2).timerLoad } ∧
      (w 2).timerLoad.toNat = ch.timerLoad.toNat / 256 * 256 + b.toNat ∧
      w 3 = { ch with timerLoad := (w 3).timerLoad, lengthValue := (w 3).lengthValue, reloadLinear := true } ∧
      (w 3).timerLoad.toNat = b.toNat % 8 * 256 + ch.timerLoad.toNat % 256 ∧
      LengthLoaded b ch.enabled ch.lengthValue (w 3).lengthValue :=
  ⟨rfl, BitVec.toNat_setWidth 7 b, rfl, rfl, timerLow_toNat _ b, rfl, timerHigh_toNat _ b,
    lengthLoaded_lengthLoad b _ _⟩

/-- The four registers of the noise (R303, R316, D50). -/
theorem noiseWrite_spec (ch : Noise) (b : Byte) :
    let w := fun r : Nat => noiseWrite ch (BitVec.ofNat 2 r) b
    w 0 = { ch with halt := b.getLsbD 5, volume := (w 0).volume } ∧ (w 0).volume.toNat = b.toNat % 16 ∧ w 1 = ch ∧
      w 2 = { ch with mode := b.getLsbD 7, timerLoad := (w 2).timerLoad } ∧
      [1, 3, 7, 15, 31, 47, 63, 79, 100, 126, 189, 253, 380, 507, 1016, 2033][b.toNat % 16]? =
        some (w 2).timerLoad.toNat ∧
      w 3 = { ch with lengthValue := (w 3).lengthValue } ∧
      LengthLoaded b ch.enabled ch.lengthValue (w 3).lengthValue :=
  ⟨rfl, BitVec.toNat_setWidth 4 b, rfl, rfl, noiseLoad_low b, rfl, lengthLoaded_lengthLoad b _ _⟩

/-- Which channel a register's address reaches (R300). -/
theorem apuWrite_channel (u : Apu) (b : Byte) {r : Nat} (h : r < 4) :
    apuWrite u (BitVec.ofNat 16 (0x4000 + r)) b = { u with p1 := pulseWrite u.p1 (BitVec.ofNat 2 r) b } ∧
      apuWrite u (BitVec.ofNat 16 (0x4004 + r)) b = { u with p2 := pulseWrite u.p2 (BitVec.ofNat 2 r) b } ∧
      apuWrite u (BitVec.ofNat 16 (0x4008 + r)) b = { u with tri := triWrite u.tri (BitVec.ofNat 2 r) b } ∧
      apuWrite u (BitVec.ofNat 16 (0x400C + r)) b = { u with ns := noiseWrite u.ns (BitVec.ofNat 2 r) b } ∧
      apuWrite u (BitVec.ofNat 16 (0x4010 + r)) b = u := by
  interval_cases r <;> exact ⟨rfl, rfl, rfl, rfl, rfl⟩

/-- Settles O56: each address reaches its channel, and each register is known by the numbers of its fields. -/
theorem audioPortsWriteTheirFields : Obligations.AudioPortsWriteTheirFields := by
  unfold Obligations.AudioPortsWriteTheirFields
  intro u b n table periods length pulse triangle noise wr enable e f st
  have hstatus : ∀ k, st.getLsbD k = _ := getLsbD_apuStatusRead u
  refine ⟨fun r hr => ?_, pulseWrite_spec u.p1 b, pulseWrite_spec u.p2 b, triWrite_spec u.tri b,
    noiseWrite_spec u.ns b, rfl, ⟨rfl, rfl⟩, ⟨rfl, rfl⟩, ⟨rfl, rfl⟩, ⟨rfl, rfl⟩, hstatus 0, hstatus 1, hstatus 2,
    hstatus 3, fun k hk => ?_, rfl⟩
  · obtain ⟨hp1, hp2, htri, hns, hnone⟩ := apuWrite_channel u b hr
    simp only [wr, hp1, hp2, htri, hns, hnone]
    exact ⟨trivial, trivial, trivial, trivial, trivial⟩
  · rw [hstatus, if_neg (by omega), if_neg (by omega), if_neg (by omega), if_neg (by omega)]

end Sys2Proof.Machine
end

section
/-! The family of 62_apu.md, the tick: a channel's timer as a countdown, what its unit does when it runs out, the
outputs in numbers, and the mix. -/

namespace Sys2Proof.Machine

/-! ### The tick -/

/-- The triangle is clocked at every tick, the pulses and the noise at every other (R310, D52). -/
theorem channelStep_eq (u : Apu) : channelStep u = { u with
    parity := !u.parity, tri := triStep u.tri, p1 := if u.parity then pulseStep u.p1 else u.p1,
    p2 := if u.parity then pulseStep u.p2 else u.p2, ns := if u.parity then noiseStep u.ns else u.ns } := by
  cases h : u.parity <;> simp [channelStep, h, Config.apuClockParity]

/-! ### Timers -/

section Timer

variable {α : Type} {w : Nat} {step : α → α} {withTimer : BitVec w → α}
  (hdown : ∀ t, t ≠ 0 → step (withTimer t) = withTimer (t - 1))

include hdown

/-- A timer above 0 counts down by one at each step, and nothing else changes. -/
theorem iterate_countdown (t : BitVec w) : ∀ k, k ≤ t.toNat →
    step^[k] (withTimer t) = withTimer (BitVec.ofNat w (t.toNat - k))
  | 0, _ => by rw [Nat.sub_zero, BitVec.ofNat_toNat, BitVec.setWidth_eq]; rfl
  | k + 1, hk => by
    have hlt : t.toNat - k < 2 ^ w := Nat.lt_of_le_of_lt (Nat.sub_le _ _) t.isLt
    have hne : BitVec.ofNat w (t.toNat - k) ≠ 0 := by
      intro h
      have h0 := congrArg BitVec.toNat h
      rw [BitVec.toNat_ofNat, Nat.mod_eq_of_lt hlt] at h0
      simp at h0
      omega
    have hpred : BitVec.ofNat w (t.toNat - k) - 1 = BitVec.ofNat w (t.toNat - (k + 1)) := by
      have hsucc : t.toNat - k = t.toNat - (k + 1) + 1 := by omega
      rw [hsucc, BitVec.ofNat_add]
      exact BitVec.add_sub_cancel _ _
    rw [Function.iterate_succ_apply', iterate_countdown t k (Nat.le_of_succ_le hk), hdown _ hne, hpred]

/-- After as many steps as the timer holds it is 0, and the next step is the one at 0. -/
theorem iterate_countdown_succ (t : BitVec w) : step^[t.toNat + 1] (withTimer t) = step (withTimer 0) := by
  rw [Function.iterate_succ_apply', iterate_countdown hdown t _ (Nat.le_refl _), Nat.sub_self]
  rfl

end Timer

theorem pulseStep_down (ch : Pulse) (t : BitVec 11) (h : t ≠ 0) :
    pulseStep { ch with timer := t } = { ch with timer := t - 1 } := if_neg h

theorem triStep_down (ch : Triangle) (t : BitVec 11) (h : t ≠ 0) :
    triStep { ch with timer := t } = { ch with timer := t - 1 } := if_neg h

theorem noiseStep_down (ch : Noise) (t : BitVec 12) (h : t ≠ 0) :
    noiseStep { ch with timer := t } = { ch with timer := t - 1 } := if_neg h

/-! ### The LFSR in numbers -/

theorem toNat_xor_getLsbD {w : Nat} (l : BitVec w) (i : Nat) :
    (l.getLsbD 0 ^^ l.getLsbD i).toNat = (l.toNat + l.toNat / 2 ^ i) % 2 := by
  have h0 : (l.getLsbD 0).toNat = l.toNat % 2 := by rw [BitVec.getLsbD, Nat.toNat_testBit, Nat.pow_zero, Nat.div_one]
  have hi : (l.getLsbD i).toNat = l.toNat / 2 ^ i % 2 := Nat.toNat_testBit _ _
  have hxor : ∀ a b : Bool, (a ^^ b).toNat = (a.toNat + b.toNat) % 2 := by decide
  rw [hxor, h0, hi, ← Nat.add_mod]

/-- One clock shifts right and feeds bit 0 XOR bit 1, in mode 1 bit 6, back into bit 14 (R315). -/
theorem lfsrNext_toNat (mode : Bool) (l : BitVec 15) : (lfsrNext mode l).toNat =
    l.toNat / 2 + 16384 * ((l.toNat + l.toNat / (if mode then 64 else 2)) % 2) := by
  have hlow := toNat_field_eq 0 1 14 (x := lfsrNext mode l) (y := l) fun k hk => by
    interval_cases k <;> simp [lfsrNext]
  have hbit : (lfsrNext mode l).getLsbD 14 = (l.getLsbD 0 ^^ l.getLsbD (if mode then 6 else 1)) := by
    rw [lfsrNext, BitVec.getLsbD_or, BitVec.getLsbD_shiftLeft, getLsbD_bitOf]
    cases mode <;> simp
  have htop := toNat_xor_getLsbD l (if mode then 6 else 1)
  rw [← hbit, BitVec.getLsbD, Nat.toNat_testBit] at htop
  have htap : 2 ^ (if mode then 6 else 1) = if mode then 64 else 2 := by
    cases mode <;> rfl
  rw [htap] at htop
  have := (lfsrNext mode l).isLt
  have := l.isLt
  omega

/-! ### Outputs -/

theorem duty_step (duty : BitVec 2) (pos : BitVec 3) :
    let row := (dutyTable.getD duty.toNat []).map Bool.toNat
    [[0, 1, 0, 0, 0, 0, 0, 0], [0, 1, 1, 0, 0, 0, 0, 0], [0, 1, 1, 1, 1, 0, 0, 0],
      [1, 0, 0, 1, 1, 1, 1, 1]][duty.toNat]? = some row ∧ row[pos.toNat]? = some (dutyHigh duty pos).toNat := by
  revert duty pos
  decide

theorem pulseOut_eq (ch : Pulse) : pulseOut ch =
    if ch.lengthValue = 0 ∨ ch.timerLoad.toNat < 8 then 0
    else if (dutyHigh ch.duty ch.pos).toNat = 1 then (ch.volume.toNat : Int) else -(ch.volume.toNat : Int) := by
  simp only [pulseOut, BitVec.lt_def, Bool.toNat_eq_one]
  rfl

theorem triLevel_step (pos : BitVec 5) :
    [15, 14, 13, 12, 11, 10, 9, 8, 7, 6, 5, 4, 3, 2, 1, 0, 0, 1, 2, 3, 4, 5, 6, 7, 8, 9, 10, 11, 12, 13, 14,
      15][pos.toNat]? = some (triLevel pos) := by
  revert pos
  decide

theorem pulseOut_bounds (ch : Pulse) : -15 ≤ pulseOut ch ∧ pulseOut ch ≤ 15 := by
  have := ch.volume.isLt
  unfold pulseOut
  split_ifs <;> omega

theorem triOut_bounds (ch : Triangle) : -7 ≤ triOut ch ∧ triOut ch ≤ 8 := by
  have := ch.pos.isLt
  unfold triOut triLevel
  split_ifs <;> omega

theorem noiseOut_bounds (ch : Noise) : 0 ≤ noiseOut ch ∧ noiseOut ch ≤ 15 := by
  have := ch.volume.isLt
  unfold noiseOut
  split_ifs <;> omega

/-- The scaled sum of the four outputs fits in 16 bits, so nothing clips (R320, D55). -/
theorem mix_toInt (u : Apu) :
    (mix u).toInt = 256 * (pulseOut u.p1 + pulseOut u.p2 + triOut u.tri + noiseOut u.ns) := by
  obtain ⟨h1, h1'⟩ := pulseOut_bounds u.p1
  obtain ⟨h2, h2'⟩ := pulseOut_bounds u.p2
  obtain ⟨h3, h3'⟩ := triOut_bounds u.tri
  obtain ⟨h4, h4'⟩ := noiseOut_bounds u.ns
  simp only [mix, clamp16, Config.pulseScale, Config.triScale, Config.noiseScale, Config.mixScale, BitVec.toInt_ofInt]
  rw [Int.bmod_eq_of_le] <;> omega

/-- Settles O57: the tick by its parts; each timer is a countdown; the outputs and the mix in numbers. -/
theorem audioTickChannelsAndMix : Obligations.AudioTickChannelsAndMix := by
  unfold Obligations.AudioTickChannelsAndMix
  intro duty tri
  refine ⟨fun u => ?_, fun ch => ⟨?_, ?_, ?_⟩, fun ch => ⟨?_, ?_, ?_⟩, fun ch => ?_, mix_toInt⟩
  · rw [apuTick, channelStep_eq]
  · exact iterate_countdown (pulseStep_down ch) ch.timer
  · exact iterate_countdown_succ (pulseStep_down ch) ch.timer
  · obtain ⟨hrow, hstep⟩ := duty_step ch.duty ch.pos
    exact ⟨_, _, hrow, hstep, pulseOut_eq ch⟩
  · exact iterate_countdown (triStep_down ch) ch.timer
  · exact iterate_countdown_succ (triStep_down ch) ch.timer
  · rw [triOut, Int.sub_add_cancel]
    exact triLevel_step ch.pos
  · intro n r
    have hr : r = { ch with timer := ch.timerLoad, lfsr := lfsrNext ch.mode ch.lfsr } :=
      iterate_countdown_succ (noiseStep_down ch) ch.timer
    refine ⟨iterate_countdown (noiseStep_down ch) ch.timer, ?_, ?_, fun hn => ?_, ?_⟩
    · rw [hr]
    · rw [hr]
      exact lfsrNext_toNat ch.mode ch.lfsr
    · rw [hr]
      exact lfsrNext_ne_zero _ _ fun h => hn (congrArg BitVec.toNat h)
    · rw [noiseOut]
      split_ifs <;> rfl

end Sys2Proof.Machine
end

section
/-! The family of 62_apu.md, the ring: the samples queued between the two indices as a list, to which a push appends and
from whose head the consumer removes. -/

namespace Sys2Proof.Machine

/-! ### The queue between the indices -/

/-- `n` samples of the ring from index `r` on, wrapping. -/
def ringFrom (ring : Sparse (BitVec 16)) : Nat → BitVec 12 → List (BitVec 16)
  | 0, _ => []
  | n + 1, r => sparseGet 0 ring r.toNat :: ringFrom ring n (r + 1)

/-- How many samples are queued. -/
def Apu.queueLength (u : Apu) : Nat := (u.widx - u.ridx).toNat

/-- The queued samples, oldest first (R322). -/
def Apu.queue (u : Apu) : List (BitVec 16) := ringFrom u.ring u.queueLength u.ridx

theorem length_ringFrom (ring : Sparse (BitVec 16)) : ∀ n r, (ringFrom ring n r).length = n
  | 0, _ => rfl
  | n + 1, r => congrArg (· + 1) (length_ringFrom ring n (r + 1))

theorem Apu.length_queue (u : Apu) : u.queue.length = u.queueLength := length_ringFrom _ _ _

theorem Apu.queueLength_le (u : Apu) : u.queueLength ≤ 4095 := Nat.le_of_lt_succ (u.widx - u.ridx).isLt

theorem drop_ringFrom (ring : Sparse (BitVec 16)) : ∀ k n r,
    (ringFrom ring n r).drop k = ringFrom ring (n - k) (r + BitVec.ofNat 12 k)
  | 0, n, r => by simp
  | k + 1, 0, r => by simp [ringFrom]
  | k + 1, n + 1, r => by
    rw [ringFrom, List.drop_succ_cons, drop_ringFrom ring k n (r + 1), Nat.succ_sub_succ, BitVec.add_assoc,
      BitVec.ofNat_add, BitVec.add_comm (BitVec.ofNat 12 k)]
    rfl

/-- The sample after the last one appended (R323). -/
theorem ringFrom_set_next (ring : Sparse (BitVec 16)) (x : BitVec 16) : ∀ n r, n < 4096 →
    ringFrom (sparseSet 0 ring (r + BitVec.ofNat 12 n).toNat x) (n + 1) r = ringFrom ring n r ++ [x]
  | 0, r, _ => by simp [ringFrom]
  | n + 1, r, h => by
    have hnext : r + BitVec.ofNat 12 (n + 1) = r + 1 + BitVec.ofNat 12 n := by
      rw [BitVec.ofNat_add, BitVec.add_comm (BitVec.ofNat 12 n), BitVec.add_assoc]
      rfl
    have hne : r.toNat ≠ (r + BitVec.ofNat 12 (n + 1)).toNat := by
      have := r.isLt
      rw [BitVec.toNat_add, BitVec.toNat_ofNat]
      omega
    rw [ringFrom, sparseGet_set_other _ _ hne, hnext, ringFrom_set_next ring x n (r + 1) (by omega)]
    rfl

/-! ### The consumer -/

theorem Apu.queue_of_empty {u : Apu} (h : u.ridx = u.widx) : u.queue = [] := by
  have hl : u.queueLength = 0 := by
    rw [Apu.queueLength, h, BitVec.sub_self]
    rfl
  rw [Apu.queue, hl, ringFrom]

/-- A queue that is not empty has its oldest sample at `ridx` (R326). -/
theorem Apu.queue_cons {u : Apu} (h : u.ridx ≠ u.widx) :
    u.queue = sparseGet 0 u.ring u.ridx.toNat :: ({ u with ridx := u.ridx + 1 } : Apu).queue := by
  have hl : u.queueLength = ({ u with ridx := u.ridx + 1 } : Apu).queueLength + 1 := by
    simp only [Apu.queueLength]
    bv_omega
  rw [Apu.queue, hl, ringFrom]
  rfl

/-- The consumer removes the oldest samples, as many as it asks for and there are, in order (R326). -/
theorem drainSamples_queue : ∀ n u,
    (drainSamples n u).1 = u.queue.take n ∧ (drainSamples n u).2.queue = u.queue.drop n
  | 0, u => ⟨rfl, rfl⟩
  | n + 1, u => by
    rw [drainSamples]
    split_ifs with h
    · rw [Apu.queue_of_empty h]
      exact ⟨rfl, rfl⟩
    · obtain ⟨hout, hrest⟩ := drainSamples_queue n { u with ridx := u.ridx + 1 }
      rw [Apu.queue_cons h, List.take_succ_cons, List.drop_succ_cons, ← hout, ← hrest]
      exact ⟨rfl, rfl⟩

/-- A call for as many samples as the ring has entries hands out the whole queue. -/
theorem drainSamples_all (u : Apu) : (drainSamples 4096 u).1 = u.queue := by
  obtain ⟨hout, _⟩ := drainSamples_queue 4096 u
  rw [hout, List.take_of_length_le]
  rw [Apu.length_queue]
  exact Nat.le_succ_of_le u.queueLength_le

theorem consumerRemoves_queue (n : Nat) (u : Apu) :
    (consumerRemoves n u).queue = u.queue.drop n ∧
      (consumerRemoves n u).consumer = { u.consumer with out := u.consumer.out ++ u.queue.take n } := by
  obtain ⟨hout, hrest⟩ := drainSamples_queue n u
  obtain ⟨r, hr⟩ := drainSamples_eq n u
  have hcons : (drainSamples n u).2.consumer = u.consumer := by rw [hr]
  refine ⟨hrest, ?_⟩
  rw [consumerRemoves, hcons, hout]

/-- Before a push the consumer has its next turn (R325). -/
theorem consumerTurn_queue (u : Apu) :
    (consumerTurn u).queue = u.queue.drop (u.consumer.turns.headD 0) ∧
      (consumerTurn u).consumer.turns = u.consumer.turns.tail ∧
      (consumerTurn u).consumer.out = u.consumer.out ++ u.queue.take (u.consumer.turns.headD 0) := by
  unfold consumerTurn
  split
  · rename_i h
    rw [h]
    exact ⟨rfl, rfl, (List.append_nil _).symm⟩
  · rename_i n rest h
    obtain ⟨hqueue, hconsumer⟩ := consumerRemoves_queue n { u with consumer := { u.consumer with turns := rest } }
    rw [hqueue, hconsumer, h]
    exact ⟨rfl, rfl, rfl⟩

/-! ### The producer -/

/-- The ring is full when it holds 4095 samples (R324, D57). -/
theorem Apu.ringFull_iff (u : Apu) : u.ringFull = true ↔ u.queueLength = 4095 := by
  rw [Apu.ringFull, decide_eq_true_eq, Apu.queueLength]
  constructor <;> intro h <;> bv_omega

theorem ringPush_full {u : Apu} (x : BitVec 16) (h : u.queue.length = 4095) : ringPush u x = u :=
  if_pos (u.ringFull_iff.2 (u.length_queue.symm.trans h))

/-- A push appends while there is room (R323). -/
theorem ringPush_append {u : Apu} (x : BitVec 16) (h : u.queue.length < 4095) :
    (ringPush u x).queue = u.queue ++ [x] := by
  rw [Apu.length_queue] at h
  have hend : u.ridx + BitVec.ofNat 12 u.queueLength = u.widx := by
    rw [Apu.queueLength, BitVec.ofNat_toNat, BitVec.setWidth_eq, BitVec.add_comm, BitVec.sub_add_cancel]
  have hl : (u.widx + 1 - u.ridx).toNat = u.queueLength + 1 := by
    rw [Apu.queueLength] at h ⊢
    bv_omega
  have hpush := ringFrom_set_next u.ring x u.queueLength u.ridx (by omega)
  rw [hend, ← hl] at hpush
  rw [ringPush, if_neg (mt u.ringFull_iff.1 (Nat.ne_of_lt h))]
  exact hpush

theorem ringPush_queue (u : Apu) (x : BitVec 16) :
    (ringPush u x).queue = if u.queue.length < 4095 then u.queue ++ [x] else u.queue := by
  have hle : u.queue.length ≤ 4095 := u.length_queue ▸ u.queueLength_le
  split_ifs with h
  · exact ringPush_append x h
  · rw [ringPush_full x (by omega)]

theorem ringPush_consumer (u : Apu) (x : BitVec 16) : (ringPush u x).consumer = u.consumer := by
  unfold ringPush
  split_ifs <;> rfl

/-! ### The sampler -/

theorem mix_withAcc (u : Apu) (a : Nat) : mix { u with acc := a } = mix u := rfl

/-- A tick that reaches the threshold emits the mix, after the consumer's turn (R322, D56). -/
theorem sampleStep_emits {u : Apu} (h : 3958 ≤ u.acc) :
    sampleStep u = ringPush (consumerTurn { u with acc := u.acc + 100 - 4058 }) (mix u) := by
  rw [sampleStep, if_pos (by omega)]
  simp only [mix_consumerTurn, mix_withAcc]

/-- An emission: the consumer's turn removes what it asks for, and may so make the room for the sample (R325). -/
theorem emission_queue (u : Apu) (a : Nat) (x : BitVec 16) :
    let e := ringPush (consumerTurn { u with acc := a }) x
    let left := u.queue.drop (u.consumer.turns.headD 0)
    e.consumer.turns = u.consumer.turns.tail ∧
      e.consumer.out = u.consumer.out ++ u.queue.take (u.consumer.turns.headD 0) ∧
      e.queue = if left.length < 4095 then left ++ [x] else left := by
  obtain ⟨hleft, hturns, hout⟩ := consumerTurn_queue { u with acc := a }
  intro e left
  have hconsumer : e.consumer = _ := ringPush_consumer _ x
  have hqueue : e.queue = _ := ringPush_queue _ x
  rw [hleft] at hqueue
  rw [hconsumer]
  exact ⟨hturns, hout, hqueue⟩

/-- Settles O59: with the queue as the list between the indices, a push appends, the consumer takes from the head, and
a sample that is emitted is pushed after the consumer's turn. -/
theorem ringBufferIsABoundedQueue : Obligations.RingBufferIsABoundedQueue := by
  intro u x n queued emitted left
  have hqueued : ∀ w, queued w = w.queue := drainSamples_all
  obtain ⟨hout, hrest⟩ := drainSamples_queue n u
  obtain ⟨hremoved, hconsumer⟩ := consumerRemoves_queue n u
  have hframe : emitted = _ := sampleStep_frame u
  simp only [left, hqueued]
  refine ⟨u.length_queue ▸ u.queueLength_le, ringPush_append x, ringPush_full x, hout, hrest, ?_, fun h => ?_,
    fun h => ?_⟩
  · rw [hremoved, hconsumer, List.append_assoc, List.take_append_drop]
  · rw [if_pos (by omega)] at hframe
    have hemit : emitted = _ := sampleStep_emits h
    rw [hemit]
    exact ⟨hemit ▸ hframe, emission_queue u _ (mix u)⟩
  · have hacc : ¬ u.acc + 100 ≥ 4058 := by omega
    exact if_neg hacc

end Sys2Proof.Machine
end
